-- ==== Sys2Proof/Word.lean ====
section
/-! DEFINITION. The words of the STP protocol engine: bytes, the wire's fixed-width numbers, opaque
4-byte strings, byte strings and exact times (R10 of 00_scope.md). -/

namespace Sys2Proof

/-- One byte of a frame, of `SRC` or of `SINK` (R10, R11). -/
abbrev Byte := BitVec 8

/-- A `u32` as it stands on the wire (R10, R93). -/
abbrev U32 := BitVec 32

/-- The `u64` of the checksum field (R10, R96). -/
abbrev U64 := BitVec 64

/-- A finite list of bytes, byte 0 the first on the wire (R10). -/
abbrev Bytes := List Byte

/-- An exact rational number of seconds (R10: `Time` is a non-negative `Q`; a value outside that range is
ill-formed where it is an operand). -/
abbrev Time := Rat

/-- Four bytes, the first on the wire first: an address, a digest or one 4-byte group of a header. -/
structure Quad where
  b0 : Byte
  b1 : Byte
  b2 : Byte
  b3 : Byte
deriving DecidableEq, Repr, Inhabited

/-- The 4-byte opaque address of R20 and R97; also the destination `Dest` of R26. -/
abbrev Addr := Quad

end Sys2Proof
end

