-- ==== Sys2Proof/Config.lean ====
section
/-! DEFINITION. What an implementation fixes (R8, R31 of the spec: parameters, not state) and the free
values. An `opaque` constant has no body: no proof can see its value, so a claim holds whatever it is. -/

namespace Sys2Proof.Config

/-- `HEADER_LEN` of R8. -/
abbrev headerLen : Nat := 32

/-- The value of `PAYLOAD_MAX` by the wire format (R8, R92, 90_conflicts.md C1). The parameter itself stands in
`Cfg.payloadMax`, so that a claim can take another value (entry 10). -/
abbrev payloadMax : Nat := 40

/-- `FRAME_MAX` of R8 for a value of `PAYLOAD_MAX`. -/
abbrev frameMax (pm : Nat) : Nat := headerLen + pm

/-- `CORRUPT_OFFSET` of R8. -/
abbrev corruptOffset : Nat := 6

/-- `CORRUPT_MASK` of R8: 101 decimal. -/
abbrev corruptMask : Byte := 0x65#8

/-- `DUP_ACK_THRESHOLD` of R8. -/
abbrev dupAckThreshold : Nat := 3

/-- `ALPHA` of R8. -/
abbrev alpha : Rat := 1 / 8

/-- `BETA` of R8. -/
abbrev beta : Rat := 1 / 4

/-- The two channel contracts of R67. -/
inductive Channel where
  | fifoReliable
  | unorderedLossy
deriving DecidableEq, Repr, Inhabited

/-- `CHANNEL` of R8, OPEN: a claim holds for both contracts (entry 12). -/
opaque channel : Channel

/-- An arbitrary function behind `DIGEST4` (R136, P1). `Machine.digest4` adds P2 on the domain of
R136 and nothing else (entry 9). -/
opaque digest4Free : Bytes → Quad

/-- What `FLIP6` answers for a string without a byte 6, which no rule says (R139; entry 35). -/
opaque freeFlip6 : Bytes → Bytes

/-- What a log record shows at an offset behind the end of a submitted string that is shorter than a header, which no
rule says (R284; entry 35). -/
opaque freeHeaderByte : Bytes → Nat → Byte

/-- An arbitrary rational behind `MIN_TIMEOUT` (R8). -/
opaque minTimeoutFree : Rat

/-- An arbitrary rational behind `MAX_TIMEOUT` (R8). -/
opaque maxTimeoutFree : Rat

/-- An arbitrary rational behind `INIT_ERTT` (R8). -/
opaque initErttFree : Rat

/-- An arbitrary rational behind `INIT_DEVRTT` (R8). -/
opaque initDrttFree : Rat

/-- `MIN_TIMEOUT` of R8: any positive rational (entry 11). -/
def minTimeout : Time := if 0 < minTimeoutFree then minTimeoutFree else 1

/-- `MAX_TIMEOUT` of R8: any rational that is at least `MIN_TIMEOUT` (entry 11). -/
def maxTimeout : Time := max minTimeout maxTimeoutFree

/-- `INIT_ERTT` of R8: any non-negative rational (entry 11). -/
def initErtt : Time := max 0 initErttFree

/-- `INIT_DEVRTT` of R8: any non-negative rational (entry 11). -/
def initDrtt : Time := max 0 initDrttFree

/-- What `cfg.window` holds after reset: unspecified, an arbitrary value of its type (R301; entry 14). -/
opaque resetWindow : Nat

/-- What `cfg.mss` holds after reset (R301; entry 14). -/
opaque resetMss : Nat

/-- What `cfg.gamma` holds after reset (R301; entry 14). -/
opaque resetGamma : Rat

/-- The free draw of R151 that call number `n` of `Draw01` takes when the environment queued none (entry 13). -/
opaque freeDraw01 : Nat → Rat

/-- The free draw of R151 that call number `n` of `DrawDelay` takes when the environment queued none (entry 13). -/
opaque freeDelay : Nat → Rat

end Sys2Proof.Config
end

