-- ==== Sys2Proof/Syntax.lean ====
section
/-! DEFINITION. The operations of the engine as syntax: one constructor of `Instr` for each row of
spec/opcode_table.json, the operand types they carry, and the slots they are encoded in. -/

namespace Sys2Proof

/-- The frame types of R98; `rsv` stands for its three reserved flag combinations. -/
inductive FrameType where
  | syn
  | synack
  | ack
  | data
  | fin
  | rsv
deriving DecidableEq, Repr

/-- A channel direction (R39, R60): `sr` from sender to receiver, `rs` back. -/
inductive Dir where
  | sr
  | rs
deriving DecidableEq, Repr

/-- The cause of a `CorruptionError` (R261). -/
inductive Cause where
  | short
  | long
  | digest
deriving DecidableEq, Repr

/-- `cfg.pld_scope` (R29): which sender frames pass through the injector's trials. -/
inductive PldScope where
  | dataOnly
  | all
deriving DecidableEq, Repr

/-- The decoded record of a frame's fields (R20). -/
structure Packet where
  src : Addr
  dst : Addr
  seq : U32
  ackNum : U32
  window : U32
  syn : Bool
  ack : Bool
  fin : Bool
  checksum : U64
  payload : Bytes
deriving DecidableEq, Repr

/-- A byte string of at least 32 bytes cut at the offsets of R62, nothing dropped: the flag bytes and the
pad keep their values, which the digest covers (R94, R95). -/
structure WireFrame where
  src : Addr
  dst : Addr
  seq : U32
  ackNum : U32
  window : U32
  synByte : Byte
  ackByte : Byte
  finByte : Byte
  pad : Byte
  checksum : U64
  payload : Bytes
deriving DecidableEq, Repr

/-- A pending delayed send, a member of `pld.pending` (R38). -/
structure Pending where
  frame : Bytes
  dest : Addr
  due : Time
deriving DecidableEq, Repr

/-- The operand pair `(reg, value)` of `CMD.CFGWR` (R292): a register of R28, R29 or R30, or `SRC`, with a
value of its type. -/
inductive CfgWrite where
  | sLocal (v : Addr)
  | sPeer (v : Addr)
  | window (v : Nat)
  | mss (v : Nat)
  | gamma (v : Rat)
  | isnS (v : Nat)
  | srcLen (v : Nat)
  | seed (v : Nat)
  | pDrop (v : Rat)
  | pDuplicate (v : Rat)
  | pCorrupt (v : Rat)
  | pReorder (v : Rat)
  | pDelay (v : Rat)
  | reorderMaxDelay (v : Nat)
  | delayMaxDelay (v : Rat)
  | pldScope (v : PldScope)
  | isnR (v : Nat)
  | rcvWnd (v : U32)
  | src (v : Bytes)
deriving DecidableEq, Repr

/-- The operations of spec/opcode_table.json, one constructor a row, in the table's order.
`pick` of `sRx` and `rRx` is the channel's choice of the datagram a poll returns (R43, R68; entry 12); `dir` of
the five frames says which engine polls the frame (entry 7). -/
inductive Instr where
  | syn (dir : Dir) (w : WireFrame)
  | synack (dir : Dir) (w : WireFrame)
  | ack (dir : Dir) (w : WireFrame)
  | data (dir : Dir) (w : WireFrame)
  | fin (dir : Dir) (w : WireFrame)
  | encode (p : Packet)
  | decode (f : Bytes)
  | flip6 (f : Bytes)
  | classify (p : Packet)
  | pldSubmit (f : Bytes) (ty : FrameType) (dest : Addr) (retx : Bool)
  | pldProcess (f : Bytes) (dest : Addr) (retx : Bool)
  | pldDrop (f : Bytes) (retx : Bool)
  | pldDup (f : Bytes) (dest : Addr) (retx : Bool)
  | pldCorrupt (f : Bytes) (dest : Addr) (retx : Bool)
  | pldHold (f : Bytes) (dest : Addr) (retx : Bool)
  | pldDelay (f : Bytes) (dest : Addr) (retx : Bool)
  | pldPass (f : Bytes) (dest : Addr) (retx : Bool)
  | pldTickheld
  | dlyFire (m : Pending)
  | pldBypass (f : Bytes) (dest : Addr)
  | xmit (f : Bytes) (dest : Addr)
  | sOpen
  | sRx (pick : Nat)
  | sRxCorrupt (b : Bytes) (c : Cause)
  | sRxSynack (p : Packet)
  | sHsack
  | sSend
  | sRxAck (p : Packet)
  | sAckFwd (a : Nat)
  | sAckStale (a : Nat)
  | sFastretx (a : Nat)
  | sTimeout
  | sFin
  | sRxFinack (p : Packet)
  | sRxPeerfin (p : Packet)
  | sRxDiscard (p : Packet)
  | rRx (pick : Nat)
  | rRxCorrupt (b : Bytes) (c : Cause)
  | rRxSyn (p : Packet)
  | rSynack
  | rRxHsack (p : Packet)
  | rRxData (p : Packet)
  | rDataInorder (p : Packet)
  | rDataOoo (p : Packet)
  | rRxFin (p : Packet)
  | rClose
  | rRxLastack (p : Packet)
  | rRxDiscard (p : Packet)
  | cmdReset
  | cmdStart
  | cmdCfgwr (w : CfgWrite)
  | clockAdvance (dt : Time)
  | chanLose (dir : Dir) (i : Nat)
deriving DecidableEq, Repr

/-- The operand slots beside an 8-bit operation code. The spec gives operands no bits (R104), so they stand
here as values (entry 3); an operation reads the slots its rule names and no other. -/
structure Operands where
  packet : Packet
  frame : Bytes
  dgram : Bytes
  ty : FrameType
  addr : Addr
  retx : Bool
  cause : Cause
  num : Nat
  time : Time
  dir : Dir
  pending : Pending
  cfg : CfgWrite
deriving DecidableEq, Repr

/-- One slot of the environment's schedule (R43, R70; entry 1): an operation by its code of R104 with its
operand slots, or a datagram that the engine at the end of `dir` polls (entry 7). -/
inductive Slot where
  | event (code : Byte) (ops : Operands)
  | frame (dir : Dir) (bytes : Bytes)
deriving DecidableEq, Repr

/-- Four zero bytes. -/
def Quad.zero : Quad := ⟨0#8, 0#8, 0#8, 0#8⟩

/-- The packet whose every field is zero, false or empty. -/
def Packet.zero : Packet := ⟨Quad.zero, Quad.zero, 0#32, 0#32, 0#32, false, false, false, 0#64, []⟩

/-- Every operand slot at its zero value: operand words of zeros; a frame slot holds 32 zero bytes (entry 3). -/
def Operands.zero : Operands where
  packet := Packet.zero
  frame := List.replicate 32 0#8
  dgram := []
  ty := .data
  addr := Quad.zero
  retx := false
  cause := .short
  num := 0
  time := 0
  dir := .sr
  pending := ⟨List.replicate 32 0#8, Quad.zero, 0⟩
  cfg := .sLocal Quad.zero

end Sys2Proof
end

