-- ==== Sys2Proof/Machine/Flags.lean ====
section
/-! DEFINITION. The flag computations: flag bytes, the type a triple of flags selects, and the type of a
packet and of a frame's bytes (R94, R98, R99, R134). The block has no arithmetic condition codes (R27). -/

namespace Sys2Proof.Machine

open Sys2Proof

/-- What `ENCODE` writes for a flag: 01 for true, 00 for false (R94, R130). -/
def flagByte (v : Bool) : Byte := if v then 0x01#8 else 0x00#8

/-- What `DECODE` reads from a flag byte: any non-zero byte is true (R94). -/
def flagOfByte (b : Byte) : Bool := b != 0x00#8

/-- The type table of R98. -/
def typeOfFlags (syn ack fin : Bool) : FrameType :=
  match syn, ack, fin with
  | true, false, false => .syn
  | true, true, false => .synack
  | false, true, false => .ack
  | false, false, false => .data
  | false, false, true => .fin
  | false, true, true => .rsv
  | true, false, true => .rsv
  | true, true, true => .rsv

/-- The `syn` flag of a type's canonical frame (R98, R99). -/
def synOfType (ty : FrameType) : Bool := ty == .syn || ty == .synack

/-- The `ack` flag of a type's canonical frame (R98, R99). -/
def ackOfType (ty : FrameType) : Bool := ty == .synack || ty == .ack

/-- The `fin` flag of a type's canonical frame (R98, R99). -/
def finOfType (ty : FrameType) : Bool := ty == .fin

/-- `CLASSIFY` of R134. -/
def classify (p : Packet) : FrameType := typeOfFlags p.syn p.ack p.fin

/-- Byte `i` of a byte string, counted from 0 at the first byte on the wire (R10). -/
def byteAt (f : Bytes) (i : Nat) : Byte := f.getD i 0x00#8

/-- The type of a frame by its three flag bytes at offsets 20, 21, 22 (R62, R94, R98). -/
def frameType (f : Bytes) : FrameType :=
  typeOfFlags (flagOfByte (byteAt f 20)) (flagOfByte (byteAt f 21)) (flagOfByte (byteAt f 22))

/-- The type that a cut frame's three flag bytes select (R94, R98). -/
def wireType (w : WireFrame) : FrameType :=
  typeOfFlags (flagOfByte w.synByte) (flagOfByte w.ackByte) (flagOfByte w.finByte)

end Sys2Proof.Machine
end

