-- ==== Sys2Proof/WellFormed.lean ====
section
/-! DEFINITION. Which operands an operation admits: the operand types of the rules that the Lean types of
`Instr` do not already say. -/

namespace Sys2Proof

open Sys2Proof.Machine

/-- A cut frame whose flag bytes select the type `ty` and whose payload is within the bound `pm` (R90, R98). -/
def wireOk (pm : Nat) (ty : FrameType) (w : WireFrame) : Bool :=
  wireType w == ty && decide (w.payload.length ≤ pm)

/-- The operands of an operation are admitted under `PAYLOAD_MAX = pm`: a frame's flag bytes select its row and its
payload is in bound. An operation with a code of R104 admits every operand its Lean type holds, because its rule acts
on each of them (R139, R265; entry 35). -/
def Instr.wf (pm : Nat) (i : Instr) : Bool :=
  match i with
  | .syn _ w => wireOk pm .syn w
  | .synack _ w => wireOk pm .synack w
  | .ack _ w => wireOk pm .ack w
  | .data _ w => wireOk pm .data w
  | .fin _ w => wireOk pm .fin w
  | .encode _ => true
  | .decode _ => true
  | .flip6 _ => true
  | .classify _ => true
  | .pldSubmit _ _ _ _ => true
  | .pldProcess _ _ _ => true
  | .pldDrop _ _ => true
  | .pldDup _ _ _ => true
  | .pldCorrupt _ _ _ => true
  | .pldHold _ _ _ => true
  | .pldDelay _ _ _ => true
  | .pldPass _ _ _ => true
  | .pldTickheld => true
  | .dlyFire _ => true
  | .pldBypass _ _ => true
  | .xmit _ _ => true
  | .sOpen => true
  | .sRx _ => true
  | .sRxCorrupt _ _ => true
  | .sRxSynack _ => true
  | .sHsack => true
  | .sSend => true
  | .sRxAck _ => true
  | .sAckFwd _ => true
  | .sAckStale _ => true
  | .sFastretx _ => true
  | .sTimeout => true
  | .sFin => true
  | .sRxFinack _ => true
  | .sRxPeerfin _ => true
  | .sRxDiscard _ => true
  | .rRx _ => true
  | .rRxCorrupt _ _ => true
  | .rRxSyn _ => true
  | .rSynack => true
  | .rRxHsack _ => true
  | .rRxData _ => true
  | .rDataInorder _ => true
  | .rDataOoo _ => true
  | .rRxFin _ => true
  | .rClose => true
  | .rRxLastack _ => true
  | .rRxDiscard _ => true
  | .cmdReset => true
  | .cmdStart => true
  | .cmdCfgwr _ => true
  | .clockAdvance _ => true
  | .chanLose _ _ => true

end Sys2Proof
end

