-- ==== Sys2Proof/Decode.lean ====
section
/-! DEFINITION. Byte order, the cut of a frame at its fixed offsets, the decoder of a schedule slot (total,
rejecting by name) and, after it, the encoder. -/

namespace Sys2Proof

open Sys2Proof.Machine

/-- `be_int` of four bytes (R12, R65). -/
def beInt4 (q : Quad) : U32 := q.b0 ++ q.b1 ++ q.b2 ++ q.b3

/-- `be32` (R12, R65). -/
def be32 (v : U32) : Quad :=
  ⟨v.extractLsb' 24 8, v.extractLsb' 16 8, v.extractLsb' 8 8, v.extractLsb' 0 8⟩

/-- `le_int` of the four digest bytes (R65, R96): the opposite order of `beInt4`. -/
def leInt4 (q : Quad) : U32 := q.b3 ++ q.b2 ++ q.b1 ++ q.b0

/-- The high four bytes of `be64` (R12). -/
def be64Hi (v : U64) : Quad := be32 (v.extractLsb' 32 32)

/-- The low four bytes of `be64` (R12). -/
def be64Lo (v : U64) : Quad := be32 (v.extractLsb' 0 32)

/-- `be_int` of eight bytes, given as two groups of four (R12). -/
def beInt8 (hi lo : Quad) : U64 := beInt4 hi ++ beInt4 lo

/-- Four bytes as a byte string, the first on the wire first. -/
def quadBytes (q : Quad) : Bytes := [q.b0, q.b1, q.b2, q.b3]

/-- The four bytes at offset `o`. -/
def quadAt (f : Bytes) (o : Nat) : Quad :=
  ⟨byteAt f o, byteAt f (o + 1), byteAt f (o + 2), byteAt f (o + 3)⟩

/-- The cut of a byte string at the offsets of R62 and R91. -/
def wireAt (f : Bytes) : WireFrame where
  src := quadAt f 0
  dst := quadAt f 4
  seq := beInt4 (quadAt f 8)
  ackNum := beInt4 (quadAt f 12)
  window := beInt4 (quadAt f 16)
  synByte := byteAt f 20
  ackByte := byteAt f 21
  finByte := byteAt f 22
  pad := byteAt f 23
  checksum := beInt8 (quadAt f 24) (quadAt f 28)
  payload := f.drop Config.headerLen

/-- The bytes of a cut frame, in the order of R62. -/
def wireBytes (w : WireFrame) : Bytes :=
  quadBytes w.src ++ quadBytes w.dst ++ quadBytes (be32 w.seq) ++ quadBytes (be32 w.ackNum) ++
    quadBytes (be32 w.window) ++ [w.synByte, w.ackByte, w.finByte, w.pad] ++
    quadBytes (be64Hi w.checksum) ++ quadBytes (be64Lo w.checksum) ++ w.payload

/-- Why a slot stands for no operation of the table. -/
inductive DecodeError where
  /-- An 8-bit code that no row of R104 has. -/
  | undefinedCode (code : Byte)
  /-- A datagram shorter than a header (R100). -/
  | shortFrame
  /-- A datagram longer than `FRAME_MAX` (R100). -/
  | longFrame
  /-- A frame whose flags select one of the three reserved rows of R98. -/
  | reservedFlags
deriving DecidableEq, Repr

/-- The operation that an 8-bit code of R104 names, with the operand slots its rule reads. -/
def opOfCode (code : Byte) (o : Operands) : Option Instr :=
  match code with
  | 0b00000000#8 => some (.encode o.packet)
  | 0b00000001#8 => some (.decode o.dgram)
  | 0b00000010#8 => some (.flip6 o.frame)
  | 0b00000011#8 => some (.classify o.packet)
  | 0b00100000#8 => some (.pldSubmit o.frame o.ty o.addr o.retx)
  | 0b00100001#8 => some (.pldProcess o.frame o.addr o.retx)
  | 0b00100010#8 => some (.pldDrop o.frame o.retx)
  | 0b00100011#8 => some (.pldDup o.frame o.addr o.retx)
  | 0b00100100#8 => some (.pldCorrupt o.frame o.addr o.retx)
  | 0b00100101#8 => some (.pldHold o.frame o.addr o.retx)
  | 0b00100110#8 => some (.pldDelay o.frame o.addr o.retx)
  | 0b00100111#8 => some (.pldPass o.frame o.addr o.retx)
  | 0b00101000#8 => some .pldTickheld
  | 0b00101001#8 => some (.dlyFire o.pending)
  | 0b00101010#8 => some (.pldBypass o.frame o.addr)
  | 0b00101011#8 => some (.xmit o.frame o.addr)
  | 0b01000000#8 => some .sOpen
  | 0b01000001#8 => some (.sRx o.num)
  | 0b01000010#8 => some (.sRxCorrupt o.dgram o.cause)
  | 0b01000011#8 => some (.sRxSynack o.packet)
  | 0b01000100#8 => some .sHsack
  | 0b01000101#8 => some .sSend
  | 0b01000110#8 => some (.sRxAck o.packet)
  | 0b01000111#8 => some (.sAckFwd o.num)
  | 0b01001000#8 => some (.sAckStale o.num)
  | 0b01001001#8 => some (.sFastretx o.num)
  | 0b01001010#8 => some .sTimeout
  | 0b01001011#8 => some .sFin
  | 0b01001100#8 => some (.sRxFinack o.packet)
  | 0b01001101#8 => some (.sRxPeerfin o.packet)
  | 0b01001110#8 => some (.sRxDiscard o.packet)
  | 0b01100000#8 => some (.rRx o.num)
  | 0b01100001#8 => some (.rRxCorrupt o.dgram o.cause)
  | 0b01100010#8 => some (.rRxSyn o.packet)
  | 0b01100011#8 => some .rSynack
  | 0b01100100#8 => some (.rRxHsack o.packet)
  | 0b01100101#8 => some (.rRxData o.packet)
  | 0b01100110#8 => some (.rDataInorder o.packet)
  | 0b01100111#8 => some (.rDataOoo o.packet)
  | 0b01101000#8 => some (.rRxFin o.packet)
  | 0b01101001#8 => some .rClose
  | 0b01101010#8 => some (.rRxLastack o.packet)
  | 0b01101011#8 => some (.rRxDiscard o.packet)
  | 0b10000000#8 => some .cmdReset
  | 0b10000001#8 => some .cmdStart
  | 0b10000010#8 => some (.cmdCfgwr o.cfg)
  | 0b10000011#8 => some (.clockAdvance o.time)
  | 0b10000100#8 => some (.chanLose o.dir o.num)
  | _ => none

/-- The decoder of an operation slot (R104): a row's code names its operation whatever the operands. -/
def decodeEvent (code : Byte) (o : Operands) : Except DecodeError Instr :=
  match opOfCode code o with
  | none => .error (.undefinedCode code)
  | some i => .ok i

/-- The decoder of a datagram: length tests first, then the type by R94 and R98, never by match and mask
(R99). The digest is the engine's test, not the decoder's (R132, R271). -/
def decodeDatagram (pm : Nat) (dir : Dir) (b : Bytes) : Except DecodeError Instr :=
  if b.length < Config.headerLen then .error .shortFrame
  else if Config.frameMax pm < b.length then .error .longFrame
  else
    match frameType b with
    | .syn => .ok (.syn dir (wireAt b))
    | .synack => .ok (.synack dir (wireAt b))
    | .ack => .ok (.ack dir (wireAt b))
    | .data => .ok (.data dir (wireAt b))
    | .fin => .ok (.fin dir (wireAt b))
    | .rsv => .error .reservedFlags

/-- The decoder of a schedule slot under `PAYLOAD_MAX = pm`, total on every slot. -/
def decode (pm : Nat) (s : Slot) : Except DecodeError Instr :=
  match s with
  | .event code o => decodeEvent code o
  | .frame dir b => decodeDatagram pm dir b

/-- The encoder: the slot of an operation, from the codes of R104 and the layout of R91. -/
def encode (i : Instr) : Slot :=
  match i with
  | .syn d w => .frame d (wireBytes w)
  | .synack d w => .frame d (wireBytes w)
  | .ack d w => .frame d (wireBytes w)
  | .data d w => .frame d (wireBytes w)
  | .fin d w => .frame d (wireBytes w)
  | .encode p => .event 0b00000000#8 { Operands.zero with packet := p }
  | .decode f => .event 0b00000001#8 { Operands.zero with dgram := f }
  | .flip6 f => .event 0b00000010#8 { Operands.zero with frame := f }
  | .classify p => .event 0b00000011#8 { Operands.zero with packet := p }
  | .pldSubmit f ty d r =>
    .event 0b00100000#8 { Operands.zero with frame := f, ty := ty, addr := d, retx := r }
  | .pldProcess f d r => .event 0b00100001#8 { Operands.zero with frame := f, addr := d, retx := r }
  | .pldDrop f r => .event 0b00100010#8 { Operands.zero with frame := f, retx := r }
  | .pldDup f d r => .event 0b00100011#8 { Operands.zero with frame := f, addr := d, retx := r }
  | .pldCorrupt f d r => .event 0b00100100#8 { Operands.zero with frame := f, addr := d, retx := r }
  | .pldHold f d r => .event 0b00100101#8 { Operands.zero with frame := f, addr := d, retx := r }
  | .pldDelay f d r => .event 0b00100110#8 { Operands.zero with frame := f, addr := d, retx := r }
  | .pldPass f d r => .event 0b00100111#8 { Operands.zero with frame := f, addr := d, retx := r }
  | .pldTickheld => .event 0b00101000#8 Operands.zero
  | .dlyFire m => .event 0b00101001#8 { Operands.zero with pending := m }
  | .pldBypass f d => .event 0b00101010#8 { Operands.zero with frame := f, addr := d }
  | .xmit f d => .event 0b00101011#8 { Operands.zero with frame := f, addr := d }
  | .sOpen => .event 0b01000000#8 Operands.zero
  | .sRx n => .event 0b01000001#8 { Operands.zero with num := n }
  | .sRxCorrupt b c => .event 0b01000010#8 { Operands.zero with dgram := b, cause := c }
  | .sRxSynack p => .event 0b01000011#8 { Operands.zero with packet := p }
  | .sHsack => .event 0b01000100#8 Operands.zero
  | .sSend => .event 0b01000101#8 Operands.zero
  | .sRxAck p => .event 0b01000110#8 { Operands.zero with packet := p }
  | .sAckFwd a => .event 0b01000111#8 { Operands.zero with num := a }
  | .sAckStale a => .event 0b01001000#8 { Operands.zero with num := a }
  | .sFastretx a => .event 0b01001001#8 { Operands.zero with num := a }
  | .sTimeout => .event 0b01001010#8 Operands.zero
  | .sFin => .event 0b01001011#8 Operands.zero
  | .sRxFinack p => .event 0b01001100#8 { Operands.zero with packet := p }
  | .sRxPeerfin p => .event 0b01001101#8 { Operands.zero with packet := p }
  | .sRxDiscard p => .event 0b01001110#8 { Operands.zero with packet := p }
  | .rRx n => .event 0b01100000#8 { Operands.zero with num := n }
  | .rRxCorrupt b c => .event 0b01100001#8 { Operands.zero with dgram := b, cause := c }
  | .rRxSyn p => .event 0b01100010#8 { Operands.zero with packet := p }
  | .rSynack => .event 0b01100011#8 Operands.zero
  | .rRxHsack p => .event 0b01100100#8 { Operands.zero with packet := p }
  | .rRxData p => .event 0b01100101#8 { Operands.zero with packet := p }
  | .rDataInorder p => .event 0b01100110#8 { Operands.zero with packet := p }
  | .rDataOoo p => .event 0b01100111#8 { Operands.zero with packet := p }
  | .rRxFin p => .event 0b01101000#8 { Operands.zero with packet := p }
  | .rClose => .event 0b01101001#8 Operands.zero
  | .rRxLastack p => .event 0b01101010#8 { Operands.zero with packet := p }
  | .rRxDiscard p => .event 0b01101011#8 { Operands.zero with packet := p }
  | .cmdReset => .event 0b10000000#8 Operands.zero
  | .cmdStart => .event 0b10000001#8 Operands.zero
  | .cmdCfgwr w => .event 0b10000010#8 { Operands.zero with cfg := w }
  | .clockAdvance dt => .event 0b10000011#8 { Operands.zero with time := dt }
  | .chanLose d n => .event 0b10000100#8 { Operands.zero with dir := d, num := n }

/-- Byte `k` of a number, byte 0 the least significant. -/
def byteOfNat (w k : Nat) : Byte := BitVec.ofNat 8 (w / 256 ^ k)

/-- The 32 header bytes of a frame whose three flag bytes are the 24-bit number `w`, byte 20 the most
significant, as the table's `match` of R99 is written; every other byte is 0 (entry 8). -/
def flagsHeader (w : Nat) : Bytes :=
  List.replicate 20 0x00#8 ++ [byteOfNat w 2, byteOfNat w 1, byteOfNat w 0] ++
    List.replicate 9 0x00#8

/-- The 32 header bytes of the 256-bit pattern of R91, character 0 the most significant bit. -/
def patternHeader (w : Nat) : Bytes := (List.range 32).map fun k => byteOfNat w (31 - k)

/-- The direction of a frame that the table's word names: a `SYNACK` is sent by the receiver, every other
type by the sender (R98; entry 8). -/
def tableDir (b : Bytes) : Dir := if frameType b = .synack then .rs else .sr

/-- The slot of the operation whose bits the table numbers as `w`: an 8-bit code with operand slots of zeros,
or a frame selected by its flag bytes (entry 8). -/
def tableSlot (nbits w : Nat) : Slot :=
  if nbits ≤ 8 then .event (byteOfNat w 0) Operands.zero
  else if w < 2 ^ 24 then .frame (tableDir (flagsHeader w)) (flagsHeader w)
  else .frame (tableDir (patternHeader w)) (patternHeader w)

/-- The operation that the decoder of the machine right after reset reads from the table's word `w` of `nbits`
bits. -/
def decodeTableWord (nbits w : Nat) : Option Instr :=
  match decode Config.payloadMax (tableSlot nbits w) with
  | .ok i => some i
  | .error _ => none

end Sys2Proof
end

