-- ==== Sys2Proof/Machine/State.lean ====
section
/-! DEFINITION. The state of the engine as plain data: every register, flag, counter, table, memory, channel
direction, log and timer of the spec, and the environment's queued choices, which are the model's own. -/

namespace Sys2Proof.Machine

open Sys2Proof

/-- `s.phase` (R21). -/
inductive SndPhase where
  | idle
  | synSent
  | established
  | dataTransfer
  | finWait
  | closed
deriving DecidableEq, Repr

/-- `r.phase` (R22). -/
inductive RcvPhase where
  | listen
  | synRcvd
  | awaitAck
  | established
  | finRcvd
  | lastAck
deriving DecidableEq, Repr

/-- A finite map from numbers to counts, keys strictly rising; an absent key reads 0 (R33, R34; entry 19). -/
abbrev CountMap := List (Nat × Nat)

/-- A byte memory as its non-zero bytes, addresses strictly rising; an address that is not listed reads 00
(entry 16). -/
abbrev Memory := List Host.Cell

/-- An entry of `s.outq` (R32). -/
structure OutSeg where
  seq : Nat
  len : Nat
  tSent : Time
  retx : Bool
deriving DecidableEq, Repr

/-- The measurement `s.timed` holds (R24); `last` is the rule's `end`. -/
structure Timed where
  last : Nat
  t0 : Time
  valid : Bool
  done : Bool
deriving DecidableEq, Repr

/-- The sender's registers and flags (R21, R24, R27, R32, R33). -/
structure Snd where
  phase : SndPhase
  base : Nat
  una : Nat
  nxt : Nat
  max : Nat
  rcvNxt : Nat
  ertt : Time
  drtt : Time
  timed : Option Timed
  cycleEnd : Nat
  outq : List OutSeg
  dupack : CountMap
  finAcked : Bool
  chanOpen : Bool
  cfgErr : Bool
deriving DecidableEq, Repr

/-- The receiver's registers, flags and observation table (R22, R25, R27, R34). -/
structure Rcv where
  phase : RcvPhase
  rcvNxt : Nat
  isn : Nat
  localAddr : Addr
  peer : Addr
  finSeq : Nat
  sinkOpen : Bool
  cfgErr : Bool
  obs : CountMap
deriving DecidableEq, Repr

/-- What `pld.held` stashes (R26). -/
structure Held where
  frame : Bytes
  dest : Addr
  retx : Bool
deriving DecidableEq, Repr

/-- The injector's registers (R26, R38). `pending` lists a multiset in order of scheduling, an order no rule
reads (entry 20). -/
structure Pld where
  held : Option Held
  wait : Nat
  pending : List Pending
deriving DecidableEq, Repr

/-- The configuration registers (R28, R29, R30) and, last, `PAYLOAD_MAX`: no register but a parameter of the model's
instance, which no operation writes and reset keeps (R8, R31; entry 10). -/
structure Cfg where
  sLocal : Addr
  sPeer : Addr
  window : Nat
  mss : Nat
  gamma : Rat
  isnS : Nat
  srcLen : Nat
  seed : Nat
  pDrop : Rat
  pDuplicate : Rat
  pCorrupt : Rat
  pReorder : Rat
  pDelay : Rat
  reorderMaxDelay : Nat
  delayMaxDelay : Rat
  pldScope : PldScope
  isnR : Nat
  rcvWnd : U32
  payloadMax : Nat
deriving DecidableEq, Repr

/-- The sender's counters (R35). -/
structure CntS where
  segmentsSent : Nat
  dropped : Nat
  duplicated : Nat
  corrupted : Nat
  reordered : Nat
  delayed : Nat
  retxTimeout : Nat
  retxFast : Nat
  dupAcks : Nat
deriving DecidableEq, Repr

/-- The receiver's counters (R36). -/
structure CntR where
  segmentsReceived : Nat
  segmentsCorrupt : Nat
  segmentsDuplicate : Nat
  dupAcks : Nat
deriving DecidableEq, Repr

/-- The log tags of R284; `sent` is `SND(retx)`, `snd` is `SND` without a mark. -/
inductive LogTag where
  | snd
  | sent (retx : Bool)
  | drop (retx : Bool)
  | dup (retx : Bool)
  | corr (retx : Bool)
  | rord (retx : Bool)
  | flush (retx : Bool)
  | dely (retx : Bool)
  | dlyfail
  | rcv
  | rcvbad (c : Cause)
  | timeout
deriving DecidableEq, Repr

/-- A log record (R284); `none` is the rule's `-`. -/
structure LogRec where
  tag : LogTag
  time : Time
  ty : Option FrameType
  seq : Option Nat
  len : Nat
  ack : Option Nat
deriving DecidableEq, Repr

/-- What the last codec operation issued by itself answered its caller (R131 to R134). The model's own: no
register of the spec holds it (entry 6). -/
inductive Result where
  | none
  | encoded (f : Bytes) (p : Packet)
  | decoded (p : Packet)
  | corruption (c : Cause)
  | flipped (f : Bytes)
  | classified (ty : FrameType)
deriving DecidableEq, Repr

/-- The environment's choices that are still to come: the schedule (entry 1), the queued draws and the counters
that index the free draws (R43, R151; entry 13). The model's own. -/
structure Env where
  sched : List Slot
  draws : List Rat
  delays : List Rat
  drawIdx : Nat
  delayIdx : Nat
deriving DecidableEq, Repr

/-- The whole state. -/
structure State where
  snd : Snd
  rcv : Rcv
  pld : Pld
  cfg : Cfg
  cntS : CntS
  cntR : CntR
  chanSR : List Bytes
  chanRS : List Bytes
  src : Memory
  sink : Bytes
  logS : List LogRec
  logR : List LogRec
  sumS : List CntS
  sumR : List CntR
  now : Time
  result : Result
  env : Env
deriving DecidableEq, Repr

/-- The reasons the machine stops with a fault: none. Each of the three anomaly classes of R260 is not fatal,
R265 knows no other, and every step ends in a defined state. -/
inductive Fault where
deriving DecidableEq, Repr

/-- The reasons the model gives an operation no meaning. -/
inductive Refusal where
  /-- An operation `exec` has no meaning for; no arm raises it. Safe. -/
  | notModelled (mnemonic : String)
  /-- Raised by the step on a slot whose 8-bit code no row of R104 has: the spec has no such operation. Safe. -/
  | undefinedCode (code : Byte)
  /-- Raised by `ENCODE` of a payload longer than `PAYLOAD_MAX` (R131: refused, the model gives the call no
  meaning). Safe. -/
  | payloadTooLong
deriving DecidableEq, Repr

/-- The reset values of the sender's registers (R44). -/
def Snd.reset : Snd where
  phase := .idle
  base := 0
  una := 0
  nxt := 0
  max := 0
  rcvNxt := 0
  ertt := Config.initErtt
  drtt := Config.initDrtt
  timed := none
  cycleEnd := 0
  outq := []
  dupack := []
  finAcked := false
  chanOpen := false
  cfgErr := false

/-- The reset values of the receiver's registers (R44). -/
def Rcv.reset : Rcv where
  phase := .listen
  rcvNxt := 0
  isn := 0
  localAddr := Quad.zero
  peer := Quad.zero
  finSeq := 0
  sinkOpen := false
  cfgErr := false
  obs := []

/-- The reset values of the injector's registers (R44). -/
def Pld.reset : Pld where
  held := none
  wait := 0
  pending := []

/-- The address 7F 00 00 01 (R28). -/
def loopback : Addr := ⟨0x7F#8, 0x00#8, 0x00#8, 0x01#8⟩

/-- The reset values of the configuration registers (R44); the three unspecified ones are uninterpreted
(R301; entry 14). -/
def Cfg.reset : Cfg where
  sLocal := loopback
  sPeer := loopback
  window := Config.resetWindow
  mss := Config.resetMss
  gamma := Config.resetGamma
  isnS := 0
  srcLen := 0
  seed := 0
  pDrop := 0
  pDuplicate := 0
  pCorrupt := 0
  pReorder := 0
  pDelay := 0
  reorderMaxDelay := 1
  delayMaxDelay := 0
  pldScope := .dataOnly
  isnR := 0
  rcvWnd := 0#32
  payloadMax := Config.payloadMax

/-- Every sender counter at 0 (R35). -/
def CntS.zero : CntS := ⟨0, 0, 0, 0, 0, 0, 0, 0, 0⟩

/-- Every receiver counter at 0 (R36). -/
def CntR.zero : CntR := ⟨0, 0, 0, 0⟩

/-- No environment choice queued (entry 25). -/
def Env.empty : Env := ⟨[], [], [], 0, 0⟩

/-- The machine right after reset (R44, R300), with the clock at 0 (entry 15). -/
def State.reset : State where
  snd := Snd.reset
  rcv := Rcv.reset
  pld := Pld.reset
  cfg := Cfg.reset
  cntS := CntS.zero
  cntR := CntR.zero
  chanSR := []
  chanRS := []
  src := []
  sink := []
  logS := []
  logR := []
  sumS := []
  sumR := []
  now := 0
  result := .none
  env := Env.empty

/-- The state with the sender's registers replaced. -/
def State.withSnd (s : State) (x : Snd) : State := { s with snd := x }

/-- The state with the receiver's registers replaced. -/
def State.withRcv (s : State) (x : Rcv) : State := { s with rcv := x }

/-- The state with the injector's registers replaced. -/
def State.withPld (s : State) (x : Pld) : State := { s with pld := x }

/-- The state with the configuration registers replaced. -/
def State.withCfg (s : State) (x : Cfg) : State := { s with cfg := x }

/-- The state with the sender's counters replaced. -/
def State.withCntS (s : State) (x : CntS) : State := { s with cntS := x }

/-- The state with the receiver's counters replaced. -/
def State.withCntR (s : State) (x : CntR) : State := { s with cntR := x }

/-- The state with `chan.SR` replaced. -/
def State.withChanSR (s : State) (x : List Bytes) : State := { s with chanSR := x }

/-- The state with `chan.RS` replaced. -/
def State.withChanRS (s : State) (x : List Bytes) : State := { s with chanRS := x }

/-- The state with `SRC` replaced. -/
def State.withSrc (s : State) (x : Memory) : State := { s with src := x }

/-- The state with `SINK` replaced. -/
def State.withSink (s : State) (x : Bytes) : State := { s with sink := x }

/-- The state with the sender's log replaced. -/
def State.withLogS (s : State) (x : List LogRec) : State := { s with logS := x }

/-- The state with the receiver's log replaced. -/
def State.withLogR (s : State) (x : List LogRec) : State := { s with logR := x }

/-- The state with the emitted sender summaries replaced. -/
def State.withSumS (s : State) (x : List CntS) : State := { s with sumS := x }

/-- The state with the emitted receiver summaries replaced. -/
def State.withSumR (s : State) (x : List CntR) : State := { s with sumR := x }

/-- The state with the clock replaced. -/
def State.withNow (s : State) (x : Time) : State := { s with now := x }

/-- The state with the codec answer replaced. -/
def State.withResult (s : State) (x : Result) : State := { s with result := x }

/-- The state with the environment's queued choices replaced. -/
def State.withEnv (s : State) (x : Env) : State := { s with env := x }

end Sys2Proof.Machine
end

