-- ==== Sys2Proof/Machine/Codec.lean ====
section
/-! DEFINITION. `CODEC`: the frame codec and checksum verifier (40_codec.md), as pure functions that the
engines' steps call, and its four operations. -/

namespace Sys2Proof.Machine

open Sys2Proof

/-- `FLIP6` of R133 as a function: one byte, at `CORRUPT_OFFSET`, xored with `CORRUPT_MASK`; a string without that
byte is outside its domain (R139) and gives a free value (entry 35). -/
def flip6 (f : Bytes) : Bytes :=
  if Config.corruptOffset < f.length then
    f.set Config.corruptOffset (byteAt f Config.corruptOffset ^^^ Config.corruptMask)
  else Config.freeFlip6 f

/-- The strings of which P2 speaks (R136): 32 to `FRAME_MAX` bytes, bytes 24 to 31 zero. -/
def digestDomain (pm : Nat) (m : Bytes) : Bool :=
  decide (Config.headerLen ≤ m.length) && decide (m.length ≤ Config.frameMax pm) &&
    ((m.drop 24).take 8 == List.replicate 8 0x00#8)

/-- `DIGEST4` of R136: an arbitrary function of the bytes (P1) with TAMPER6 (P2). Where the arbitrary
`Config.digest4Free` gives a string of P2's domain and its `FLIP6` one digest, the string whose byte 6 is odd gets
another; a function that has P2 already is left as it is, and so is every other string (entry 9). -/
def digest4 (pm : Nat) (m : Bytes) : Quad :=
  let d := Config.digest4Free m
  if digestDomain pm m = true ∧ d = Config.digest4Free (flip6 m) ∧
      (byteAt m Config.corruptOffset).getLsbD 0 = true then
    { d with b0 := d.b0 ^^^ 1#8 }
  else d

/-- One of the eight shifts that `DIGEST4_REF` makes for a byte (R137). -/
def crcBit (c : U32) : U32 := if c.getLsbD 0 then (c >>> 1) ^^^ 0xEDB88320#32 else c >>> 1

/-- What `DIGEST4_REF` does with a byte (R137). -/
def crcByte (c : U32) (b : Byte) : U32 :=
  crcBit (crcBit (crcBit (crcBit (crcBit (crcBit (crcBit (crcBit (c ^^^ b.setWidth 32))))))))

/-- `DIGEST4_REF` of R137, the instance of `DIGEST4` that the test vectors take. No rule of an engine reads it. -/
def digest4Ref (m : Bytes) : Quad := be32 ((m.foldl crcByte 0xFFFFFFFF#32) ^^^ 0xFFFFFFFF#32)

/-- `ZEROCK` of R130. -/
def zerock (f : Bytes) : Bytes := f.take 24 ++ List.replicate 8 0x00#8 ++ f.drop 32

/-- `HDR` of R130. -/
def hdr (p : Packet) (ck : U64) : Bytes :=
  quadBytes p.src ++ quadBytes p.dst ++ quadBytes (be32 p.seq) ++ quadBytes (be32 p.ackNum) ++
    quadBytes (be32 p.window) ++ [flagByte p.syn, flagByte p.ack, flagByte p.fin, 0x00#8] ++
    quadBytes (be64Hi ck) ++ quadBytes (be64Lo ck)

/-- The value of the checksum field for a digest: `zext_64(le_int(d))` (R96). -/
def checksumOf (d : Quad) : U64 := (leInt4 d).setWidth 64

/-- `ENCODE` of R131 over a digest function: the frame and the packet completed with its checksum. The bound
on the payload is the caller's (entry 23). -/
def encodeFrameWith (dig : Bytes → Quad) (p : Packet) : Bytes × Packet :=
  let c := checksumOf (dig (hdr p 0#64 ++ p.payload))
  (hdr p c ++ p.payload, { p with checksum := c })

/-- `ENCODE` of R131 under `PAYLOAD_MAX = pm`, on which `DIGEST4`'s domain of P2 depends. -/
def encodeFrame (pm : Nat) (p : Packet) : Bytes × Packet := encodeFrameWith (digest4 pm) p

/-- The packet whose fields stand at the offsets of R62 in `f` (R93, R94, R97, R132). -/
def packetAt (f : Bytes) : Packet where
  src := quadAt f 0
  dst := quadAt f 4
  seq := beInt4 (quadAt f 8)
  ackNum := beInt4 (quadAt f 12)
  window := beInt4 (quadAt f 16)
  syn := flagOfByte (byteAt f 20)
  ack := flagOfByte (byteAt f 21)
  fin := flagOfByte (byteAt f 22)
  checksum := beInt8 (quadAt f 24) (quadAt f 28)
  payload := f.drop 32

/-- `DECODE` of R132 over `PAYLOAD_MAX = pm` and a digest function, its tests in the order of R271. -/
def decodeFrameWith (pm : Nat) (dig : Bytes → Quad) (f : Bytes) : Except Cause Packet :=
  if f.length < Config.headerLen then .error .short
  else if Config.frameMax pm < f.length then .error .long
  else if beInt8 (quadAt f 24) (quadAt f 28) ≠ checksumOf (dig (zerock f)) then .error .digest
  else .ok (packetAt f)

/-- `DECODE` of R132. -/
def decodeFrame (pm : Nat) (f : Bytes) : Except Cause Packet := decodeFrameWith pm (digest4 pm) f

/-- The code of a `CorruptionError` cause (R261). -/
def causeCode (c : Cause) : Nat :=
  match c with
  | .short => 1
  | .long => 2
  | .digest => 3

/-- `seq(f)` of a frame's bytes, for the log (R153, R284). -/
def frameSeq (f : Bytes) : Nat := (beInt4 (quadAt f 8)).toNat

/-- `ack_num(f)` of a frame's bytes, for the log (R153, R284). -/
def frameAckNum (f : Bytes) : Nat := (beInt4 (quadAt f 12)).toNat

/-- `len(payload(f))` of a frame's bytes (R61). -/
def framePayloadLen (f : Bytes) : Nat := f.length - Config.headerLen

/-- `ENCODE` (R131): the answer goes to the caller; a payload above `PAYLOAD_MAX` is refused. -/
def execEncode (p : Packet) (s : State) : Host.Outcome State Fault Refusal :=
  if p.payload.length ≤ s.cfg.payloadMax then
    .next (s.withResult
      (.encoded (encodeFrame s.cfg.payloadMax p).1 (encodeFrame s.cfg.payloadMax p).2))
  else .refused .payloadTooLong

/-- `DECODE` (R132): the packet, or `CorruptionError` with its cause, goes to the caller. -/
def execDecode (f : Bytes) (s : State) : Host.Outcome State Fault Refusal :=
  .next (s.withResult (match decodeFrame s.cfg.payloadMax f with
    | .ok p => .decoded p
    | .error c => .corruption c))

/-- `FLIP6` (R133). -/
def execFlip6 (f : Bytes) (s : State) : Host.Outcome State Fault Refusal :=
  .next (s.withResult (.flipped (flip6 f)))

/-- `CLASSIFY` (R134). -/
def execClassify (p : Packet) (s : State) : Host.Outcome State Fault Refusal :=
  .next (s.withResult (.classified (classify p)))

end Sys2Proof.Machine
end

