-- ==== Sys2Proof/Machine/Ops.lean ====
section
/-! DEFINITION. The named operations over memories, tables, channels, logs and draws, and the shared handling
of the three anomaly classes. -/

namespace Sys2Proof.Machine

open Sys2Proof

/-- The byte at an address of `SRC`; an address that is not listed reads 00 (R63; entry 16). -/
def memRead : Memory → Nat → Byte
  | [], _ => 0x00#8
  | (k, b) :: m, a => if k = a then b else memRead m a

/-- `MemRead(SRC, o, n)` (R12, R63). -/
def memReadN (m : Memory) (o n : Nat) : Bytes := (List.range n).map fun i => memRead m (o + i)

/-- The canonical memory that holds a byte string from address `a` on and 00 elsewhere. -/
def memOfBytes (a : Nat) : Bytes → Memory
  | [] => []
  | b :: bs => if b = 0x00#8 then memOfBytes (a + 1) bs else (a, b) :: memOfBytes (a + 1) bs

/-- Addresses are strictly rising from `lo` on and no byte is 00. -/
def memWfFrom (lo : Nat) : Memory → Bool
  | [] => true
  | (a, b) :: m => decide (lo ≤ a) && (b != 0x00#8) && memWfFrom (a + 1) m

/-- The content of `SRC` (R63): its first `cfg.src_len` bytes. -/
def srcBytes (s : State) : Bytes := memReadN s.src 0 s.cfg.srcLen

/-- The one canonical form of a memory. -/
def Memory.wf (m : Memory) : Bool := memWfFrom 0 m

/-- The count a table holds for a key; an absent key reads 0 (R33, R34). -/
def countGet : CountMap → Nat → Nat
  | [], _ => 0
  | (k, n) :: m, a => if k = a then n else countGet m a

/-- The table with the count of a key written (R33, R34). -/
def countSet : CountMap → Nat → Nat → CountMap
  | [], a, v => [(a, v)]
  | (k, n) :: m, a, v =>
    if a < k then (a, v) :: (k, n) :: m
    else if k = a then (a, v) :: m
    else (k, n) :: countSet m a v

/-- Keys are strictly rising from `lo` on. -/
def countWfFrom (lo : Nat) : CountMap → Bool
  | [] => true
  | (k, _) :: m => decide (lo ≤ k) && countWfFrom (k + 1) m

/-- The one canonical form of a table. -/
def countWf (m : CountMap) : Bool := countWfFrom 0 m

/-- The sum over the keys of `g` of their counts. -/
def countSum (g : Nat → Nat) : CountMap → Nat
  | [] => 0
  | (_, n) :: m => g n + countSum g m

/-- The datagrams in flight in a direction (R39). -/
def chanGet (dir : Dir) (s : State) : List Bytes :=
  match dir with
  | .sr => s.chanSR
  | .rs => s.chanRS

/-- The state with the datagrams of a direction replaced. -/
def chanPut (dir : Dir) (l : List Bytes) (s : State) : State :=
  match dir with
  | .sr => s.withChanSR l
  | .rs => s.withChanRS l

/-- `ChanSend` (R66): the datagram is in the channel, behind everything sent before it (R71). -/
def chanSend (dir : Dir) (b : Bytes) (s : State) : State := chanPut dir (chanGet dir s ++ [b]) s

/-- The index of the datagram that a poll returns: the oldest under FIFO_RELIABLE, the channel's choice under
UNORDERED_LOSSY (R67, R68, R294; entry 12). -/
def pollIndex (pick : Nat) : Nat :=
  match pick with
  | 0 => 0
  | n + 1 =>
    match Config.channel with
    | .fifoReliable => 0
    | .unorderedLossy => n + 1

/-- `ChanPoll` (R68): the datagram returned and the state without it, or none, which changes nothing. -/
def chanPoll (dir : Dir) (pick : Nat) (s : State) : Option (Bytes × State) :=
  match (chanGet dir s)[pollIndex pick]? with
  | none => none
  | some b => some (b, chanPut dir ((chanGet dir s).eraseIdx (pollIndex pick)) s)

/-- A record appended to the sender's log, which `PLD` and `DLY` steps share (R283). -/
def logSnd (r : LogRec) (s : State) : State := s.withLogS (s.logS ++ [r])

/-- A record appended to the receiver's log (R283). -/
def logRcv (r : LogRec) (s : State) : State := s.withLogR (s.logR ++ [r])

/-- The header that a log record reads: a string shorter than a header shows free bytes behind its end (entry 35). -/
def logHeader (f : Bytes) : Bytes :=
  f ++ (List.range (Config.headerLen - f.length)).map (Config.freeHeaderByte f)

/-- The record `Log(tag, now, tag(f), seq(f), len(payload(f)), ack_num(f))` of a frame's bytes (R153, R284). -/
def frameRec (tag : LogTag) (t : Time) (f : Bytes) : LogRec :=
  ⟨tag, t, some (frameType (logHeader f)), some (frameSeq (logHeader f)), framePayloadLen f,
    some (frameAckNum (logHeader f))⟩

/-- The record `Log(RCV, now, tag(p), p.seq, len(p.payload), p.ack_num)` (R185, R231). -/
def packetRec (t : Time) (p : Packet) : LogRec :=
  ⟨.rcv, t, some (classify p), some p.seq.toNat, p.payload.length, some p.ackNum.toNat⟩

/-- `XMIT` of R162: a send after the channel closed does nothing. `dest` names the one peer the model has. -/
def xmit (f : Bytes) (_dest : Addr) (s : State) : State :=
  if s.snd.chanOpen then chanSend .sr f s else s

/-- A draw in the range of `Draw01`, `0 <= u < 1` (R151); a queued value outside it stands for 0 (entry 13). -/
def unitDraw (u : Rat) : Rat := if 0 ≤ u ∧ u < 1 then u else 0

/-- The value that the `n`-th next `Draw01` returns (R151): the environment's queue first, then free values
(entry 13). -/
def drawAt (n : Nat) (s : State) : Rat :=
  unitDraw (match s.env.draws[n]? with
    | some u => u
    | none => Config.freeDraw01 (s.env.drawIdx + n))

/-- The state after `n` calls of `Draw01`. -/
def skipDraws (n : Nat) (s : State) : State :=
  s.withEnv { s.env with draws := s.env.draws.drop n, drawIdx := s.env.drawIdx + n }

/-- A trial with probability `p` on the draw `u` (R151). -/
def trial (u p : Rat) : Bool := decide (u < p)

/-- What the next `DrawDelay(m)` returns, `0 <= d <= m` (R151; entry 13). -/
def delayAt (m : Time) (s : State) : Time :=
  max 0 (min m (match s.env.delays[0]? with
    | some d => d
    | none => Config.freeDelay s.env.delayIdx))

/-- The state after one call of `DrawDelay`. -/
def skipDelay (s : State) : State :=
  s.withEnv { s.env with delays := s.env.delays.drop 1, delayIdx := s.env.delayIdx + 1 }

/-- `SinkAppend` (R64): appends while the sink is open; a closed sink is frozen (R281; entry 18). -/
def sinkAppend (b : Bytes) (s : State) : State :=
  if s.rcv.sinkOpen then s.withSink (s.sink ++ b) else s

/-- The two roles that own a connection state. -/
inductive Role where
  | snd
  | rcv
deriving DecidableEq, Repr

/-- The three anomaly classes of R260, with what their handling reads. -/
inductive Anomaly where
  /-- `CorruptionError` met by a role's receive step on a datagram of `len` bytes. -/
  | corruption (role : Role) (len : Nat) (c : Cause)
  /-- `DelayedSendFailure` met by `DLY.FIRE`. -/
  | delayedSend (m : Pending)
  /-- `ConfigError` met by `CMD.START` (`snd`) or `R.RX_SYN` (`rcv`). -/
  | config (role : Role)
deriving DecidableEq, Repr

/-- The class code of R260. -/
def anomalyCode (a : Anomaly) : Nat :=
  match a with
  | .corruption _ _ _ => 1
  | .delayedSend _ => 2
  | .config _ => 3

/-- Taking an anomaly, the block's whole exception handling (R262, R263, R264): a log record or a sticky
flag, at most one counter, nothing saved, no vector. There is no return operation (R273). -/
def takeAnomaly (a : Anomaly) (s : State) : State :=
  match a with
  | .corruption .snd n c => logSnd ⟨.rcvbad c, s.now, none, none, n, none⟩ s
  | .corruption .rcv n c =>
    let s1 := logRcv ⟨.rcvbad c, s.now, none, none, n, none⟩ s
    if s.rcv.phase = .listen then s1
    else s1.withCntR { s.cntR with segmentsCorrupt := s.cntR.segmentsCorrupt + 1 }
  | .delayedSend m => logSnd (frameRec .dlyfail s.now m.frame) s
  | .config .snd => s.withSnd { s.snd with cfgErr := true }
  | .config .rcv => s.withRcv { s.rcv with cfgErr := true }

end Sys2Proof.Machine
end

