-- ==== Sys2Proof/Machine/Operands.lean ====
section
/-! DEFINITION. What the step rules compute from registers: source offsets, segment lengths, the frames each
role builds, the timeout value, the legality of a configuration (R182, R201, R208, R243, R247, R306). -/

namespace Sys2Proof.Machine

open Sys2Proof

/-- `OFF(q)` (R182), used only where `q >= s.base` (R206). -/
def off (s : State) (q : Nat) : Nat := q - s.snd.base

/-- `SEGLEN(q)` (R182). -/
def segLen (s : State) (q : Nat) : Nat := min s.cfg.mss (s.cfg.srcLen - off s q)

/-- `END` (R182). -/
def endSeq (s : State) : Nat := s.snd.base + s.cfg.srcLen

/-- The packet behind `MKFRAME(ty, q, a, payload)` (R182, R208). -/
def sndPacket (s : State) (ty : FrameType) (q a : Nat) (payload : Bytes) : Packet where
  src := s.cfg.sLocal
  dst := s.cfg.sPeer
  seq := BitVec.ofNat 32 q
  ackNum := BitVec.ofNat 32 a
  window := BitVec.ofNat 32 s.cfg.window
  syn := synOfType ty
  ack := ackOfType ty
  fin := finOfType ty
  checksum := 0#64
  payload := payload

/-- `MKFRAME` (R182). -/
def mkFrame (s : State) (ty : FrameType) (q a : Nat) (payload : Bytes) : Bytes :=
  (encodeFrame s.cfg.payloadMax (sndPacket s ty q a payload)).1

/-- The application bytes of the segment that starts at `q`: `MemRead(SRC, OFF(q), SEGLEN(q))` (R77, R182). -/
def segBytes (s : State) (q : Nat) : Bytes := memReadN s.src (off s q) (segLen s q)

/-- `DATAFRAME(q)` (R182). -/
def dataFrame (s : State) (q : Nat) : Bytes := mkFrame s .data q s.snd.rcvNxt (segBytes s q)

/-- `RTO()` over its parameters (R201). -/
def rtoOf (lo hi ertt gamma drtt : Rat) : Rat := min (max (ertt + gamma * drtt) lo) hi

/-- `RTO()` (R201). -/
def rto (s : State) : Time :=
  rtoOf Config.minTimeout Config.maxTimeout s.snd.ertt s.cfg.gamma s.snd.drtt

/-- `INC32` (R247). -/
def inc32 (x : Nat) : Nat := (x + 1) % 2 ^ 32

/-- The packet behind `R.MKFRAME(ty, a)` (R243, R247). -/
def rcvPacket (s : State) (ty : FrameType) (a : Nat) : Packet where
  src := s.rcv.localAddr
  dst := s.rcv.peer
  seq := BitVec.ofNat 32 (if ty = .synack then s.rcv.isn else s.rcv.isn + 1)
  ackNum := BitVec.ofNat 32 a
  window := s.cfg.rcvWnd
  syn := synOfType ty
  ack := ackOfType ty
  fin := finOfType ty
  checksum := 0#64
  payload := []

/-- `R.MKFRAME` (R247). -/
def rMkFrame (s : State) (ty : FrameType) (a : Nat) : Bytes :=
  (encodeFrame s.cfg.payloadMax (rcvPacket s ty a)).1

/-- A probability is in `[0, 1]` (R306, check 4). -/
def probabilityOk (p : Rat) : Bool := decide (0 ≤ p) && decide (p ≤ 1)

/-- The checks of `CMD.START` (R306), in its order; check 8 holds of every value of its type. -/
def senderConfigLegal (c : Cfg) : Bool :=
  (decide (1 ≤ c.mss) && decide (c.mss ≤ c.payloadMax)) &&
  (decide (c.mss ≤ c.window) && decide (c.window < 2 ^ 32)) &&
  decide (0 ≤ c.gamma) &&
  (probabilityOk c.pDrop && probabilityOk c.pDuplicate && probabilityOk c.pCorrupt &&
    probabilityOk c.pReorder && probabilityOk c.pDelay) &&
  decide (1 ≤ c.reorderMaxDelay) &&
  decide (0 ≤ c.delayMaxDelay) &&
  decide (c.isnS + c.srcLen + 2 < 2 ^ 32)

/-- The receiver's only check (R233, R306). -/
def receiverConfigLegal (c : Cfg) : Bool := decide (c.isnR + 2 < 2 ^ 32)

end Sys2Proof.Machine
end

