-- ==== Sys2Proof/Machine/Injector.lean ====
section
/-! DEFINITION. `PLD`, the network-fault injector, and the delayed-send agent (41_injector.md). -/

namespace Sys2Proof.Machine

open Sys2Proof

/-- `PLD.DROP` (R153). -/
def pldDrop (f : Bytes) (retx : Bool) (s : State) : State :=
  logSnd (frameRec (.drop retx) s.now f)
    (s.withCntS { s.cntS with dropped := s.cntS.dropped + 1 })

/-- `PLD.DUP` (R154): two identical datagrams, back to back. -/
def pldDup (f : Bytes) (dest : Addr) (retx : Bool) (s : State) : State :=
  logSnd (frameRec (.dup retx) s.now f)
    ((xmit f dest (xmit f dest s)).withCntS { s.cntS with duplicated := s.cntS.duplicated + 1 })

/-- `PLD.CORRUPT` (R155): the damaged copy is sent at once; the record shows the frame submitted. -/
def pldCorrupt (f : Bytes) (dest : Addr) (retx : Bool) (s : State) : State :=
  logSnd (frameRec (.corr retx) s.now f)
    ((xmit (flip6 f) dest s).withCntS { s.cntS with corrupted := s.cntS.corrupted + 1 })

/-- `PLD.HOLD` (R156). -/
def pldHold (f : Bytes) (dest : Addr) (retx : Bool) (s : State) : State :=
  logSnd (frameRec (.rord retx) s.now f)
    ((s.withPld { s.pld with held := some ⟨f, dest, retx⟩, wait := 0 }).withCntS
      { s.cntS with reordered := s.cntS.reordered + 1 })

/-- `PLD.DELAY` (R157): a new `DLY` agent, due after the drawn delay. -/
def pldDelay (f : Bytes) (dest : Addr) (retx : Bool) (s : State) : State :=
  logSnd (frameRec (.dely retx) s.now f)
    (((skipDelay s).withPld { s.pld with
        pending := s.pld.pending ++ [⟨f, dest, s.now + delayAt s.cfg.delayMaxDelay s⟩] }).withCntS
      { s.cntS with delayed := s.cntS.delayed + 1 })

/-- `PLD.PASS` (R158). -/
def pldPass (f : Bytes) (dest : Addr) (retx : Bool) (s : State) : State :=
  logSnd (frameRec (.sent retx) s.now f) (xmit f dest s)

/-- `PLD.TICKHELD` (R159): the flushed frame follows the branch's own sends. -/
def tickHeld (s : State) : State :=
  match s.pld.held with
  | none => s
  | some h =>
    if s.cfg.reorderMaxDelay ≤ s.pld.wait + 1 then
      (logSnd (frameRec (.flush h.retx) s.now h.frame) (xmit h.frame h.dest s)).withPld
        { s.pld with held := none, wait := 0 }
    else s.withPld { s.pld with wait := s.pld.wait + 1 }

/-- `PLD.PROCESS` (R152): the first trial that succeeds decides the branch; draws are taken lazily, and none
for the reorder trial while a frame is held. -/
def pldProcess (f : Bytes) (dest : Addr) (retx : Bool) (s : State) : State :=
  if trial (drawAt 0 s) s.cfg.pDrop then pldDrop f retx (skipDraws 1 s)
  else if trial (drawAt 1 s) s.cfg.pDuplicate then tickHeld (pldDup f dest retx (skipDraws 2 s))
  else if trial (drawAt 2 s) s.cfg.pCorrupt then tickHeld (pldCorrupt f dest retx (skipDraws 3 s))
  else if s.pld.held = none then
    if trial (drawAt 3 s) s.cfg.pReorder then pldHold f dest retx (skipDraws 4 s)
    else if trial (drawAt 4 s) s.cfg.pDelay then tickHeld (pldDelay f dest retx (skipDraws 5 s))
    else tickHeld (pldPass f dest retx (skipDraws 5 s))
  else if trial (drawAt 3 s) s.cfg.pDelay then tickHeld (pldDelay f dest retx (skipDraws 4 s))
  else tickHeld (pldPass f dest retx (skipDraws 4 s))

/-- `PLD.BYPASS` (R161): no draw, no tick. -/
def pldBypass (f : Bytes) (dest : Addr) (s : State) : State :=
  logSnd (frameRec .snd s.now f) (xmit f dest s)

/-- `PLD.SUBMIT` (R150). -/
def pldSubmit (f : Bytes) (ty : FrameType) (dest : Addr) (retx : Bool) (s : State) : State :=
  if s.cfg.pldScope = .all ∨ ty = .data then pldProcess f dest retx s else pldBypass f dest s

/-- `DLY.FIRE` of an enabled member (R160, R263). -/
def dlyFire (m : Pending) (s : State) : State :=
  let s1 := s.withPld { s.pld with pending := s.pld.pending.erase m }
  if s.snd.chanOpen then chanSend .sr m.frame s1 else takeAnomaly (.delayedSend m) s1

/-- `PLD.SUBMIT` (R150). -/
def execPldSubmit (f : Bytes) (ty : FrameType) (dest : Addr) (retx : Bool) (s : State) :
    Host.Outcome State Fault Refusal :=
  .next (pldSubmit f ty dest retx s)

/-- `PLD.PROCESS` (R152). -/
def execPldProcess (f : Bytes) (dest : Addr) (retx : Bool) (s : State) :
    Host.Outcome State Fault Refusal :=
  .next (pldProcess f dest retx s)

/-- `PLD.DROP` (R153). -/
def execPldDrop (f : Bytes) (retx : Bool) (s : State) : Host.Outcome State Fault Refusal :=
  .next (pldDrop f retx s)

/-- `PLD.DUP` (R154). -/
def execPldDup (f : Bytes) (dest : Addr) (retx : Bool) (s : State) :
    Host.Outcome State Fault Refusal :=
  .next (pldDup f dest retx s)

/-- `PLD.CORRUPT` (R155). -/
def execPldCorrupt (f : Bytes) (dest : Addr) (retx : Bool) (s : State) :
    Host.Outcome State Fault Refusal :=
  .next (pldCorrupt f dest retx s)

/-- `PLD.HOLD` (R156), enabled while no frame is held; otherwise nothing happens (entry 4). -/
def execPldHold (f : Bytes) (dest : Addr) (retx : Bool) (s : State) :
    Host.Outcome State Fault Refusal :=
  .next (if s.pld.held = none then pldHold f dest retx s else s)

/-- `PLD.DELAY` (R157). -/
def execPldDelay (f : Bytes) (dest : Addr) (retx : Bool) (s : State) :
    Host.Outcome State Fault Refusal :=
  .next (pldDelay f dest retx s)

/-- `PLD.PASS` (R158). -/
def execPldPass (f : Bytes) (dest : Addr) (retx : Bool) (s : State) :
    Host.Outcome State Fault Refusal :=
  .next (pldPass f dest retx s)

/-- `PLD.TICKHELD` (R159). -/
def execPldTickheld (s : State) : Host.Outcome State Fault Refusal := .next (tickHeld s)

/-- `DLY.FIRE` (R160), enabled for a member of `pld.pending` that is due; otherwise nothing happens (entry 4). -/
def execDlyFire (m : Pending) (s : State) : Host.Outcome State Fault Refusal :=
  .next (if m ∈ s.pld.pending ∧ m.due ≤ s.now then dlyFire m s else s)

/-- `PLD.BYPASS` (R161). -/
def execPldBypass (f : Bytes) (dest : Addr) (s : State) : Host.Outcome State Fault Refusal :=
  .next (pldBypass f dest s)

/-- `XMIT` (R162). -/
def execXmit (f : Bytes) (dest : Addr) (s : State) : Host.Outcome State Fault Refusal :=
  .next (xmit f dest s)

end Sys2Proof.Machine
end

