-- ==== Sys2Proof/Machine/Sender.lean ====
section
/-! DEFINITION. `SND`, the sender engine and its adaptive timeout (42_sender.md). A step whose guard does not
hold changes nothing (entry 4); a sub-operation issued by itself runs under the guard its own rule states
(entry 5). -/

namespace Sys2Proof.Machine

open Sys2Proof

/-- `RTT_UPDATE` (R200): the deviation uses the updated estimate. -/
def rttUpdate (sample : Time) (s : State) : State :=
  let e := (1 - Config.alpha) * s.snd.ertt + Config.alpha * sample
  let d := (1 - Config.beta) * s.snd.drtt + Config.beta * |sample - e|
  s.withSnd { s.snd with ertt := e, drtt := d }

/-- `RTT_ARM` (R202). -/
def rttArm (s : State) : State :=
  match s.snd.timed, s.snd.outq with
  | none, h :: _ =>
    s.withSnd { s.snd with
      timed := some ⟨h.seq + h.len, h.tSent, !h.retx, false⟩
      cycleEnd := s.snd.nxt }
  | _, _ => s

/-- The first half of `RTT_ON_FWD_ACK` (R203): the cycle's one sample, taken when the timed segment is wholly
acknowledged. -/
def rttSample (a : Nat) (t : Timed) (s : State) : State :=
  if t.done = false ∧ t.last ≤ a then
    let s1 := if t.valid then rttUpdate (s.now - t.t0) s else s
    s1.withSnd { s1.snd with timed := some { t with done := true } }
  else s

/-- The end of a cycle in `RTT_ON_FWD_ACK` (R203). -/
def rttCycle (a : Nat) (s : State) : State :=
  if s.snd.cycleEnd ≤ a then s.withSnd { s.snd with timed := none } else s

/-- `RTT_ON_FWD_ACK` (R203). -/
def rttOnFwdAck (a : Nat) (s : State) : State :=
  match s.snd.timed with
  | none => rttArm s
  | some t => rttArm (rttCycle a (rttSample a t s))

/-- `S.OPEN` (R184): the registers it writes before the SYN is submitted. -/
def sOpenRegs (s : State) : State :=
  ((s.withSnd { s.snd with
      base := s.cfg.isnS + 1
      una := s.cfg.isnS + 1
      nxt := s.cfg.isnS + 1
      max := s.cfg.isnS + 1
      rcvNxt := 0
      ertt := Config.initErtt
      drtt := Config.initDrtt
      timed := none
      cycleEnd := s.cfg.isnS + 1
      outq := []
      dupack := []
      finAcked := false
      chanOpen := true }).withPld { s.pld with held := none, wait := 0 }).withCntS CntS.zero

/-- The state with `s.phase` written (R21). -/
def setSndPhase (ph : SndPhase) (s : State) : State := s.withSnd { s.snd with phase := ph }

/-- `S.OPEN` (R184). -/
def sOpen (s : State) : State :=
  let s1 := sOpenRegs s
  setSndPhase .synSent
    (pldSubmit (mkFrame s1 .syn s1.cfg.isnS 0 []) .syn s1.cfg.sPeer false s1)

/-- The phases in which the sender polls `CHAN.RS` (R180, R185). -/
def sndPolls (ph : SndPhase) : Bool := ph == .synSent || ph == .dataTransfer || ph == .finWait

/-- `S.RX_CORRUPT` (R186). -/
def sRxCorrupt (b : Bytes) (c : Cause) (s : State) : State :=
  takeAnomaly (.corruption .snd b.length c) s

/-- `S.RX_SYNACK` (R187). -/
def sRxSynack (p : Packet) (s : State) : State :=
  s.withSnd { s.snd with rcvNxt := inc32 p.seq.toNat, phase := .established }

/-- `S.HSACK` (R188). -/
def sHsack (s : State) : State :=
  setSndPhase .dataTransfer
    (pldSubmit (mkFrame s .ack s.snd.base s.snd.rcvNxt []) .ack s.cfg.sPeer false s)

/-- The guard of `S.SEND` (R189); `OFF` is defined from `s.base` on (R182). -/
def sSendEnabled (s : State) : Bool :=
  decide (s.snd.phase = .dataTransfer) && decide (s.snd.base ≤ s.snd.nxt) &&
    decide (off s s.snd.nxt < s.cfg.srcLen) &&
    decide ((s.snd.nxt - s.snd.una) + segLen s s.snd.nxt ≤ s.cfg.window)

/-- The counters `S.SEND` raises before it submits (R189). -/
def sSendCount (retx : Bool) (c : CntS) : CntS :=
  { c with
    segmentsSent := c.segmentsSent + 1
    retxTimeout := if retx then c.retxTimeout + 1 else c.retxTimeout }

/-- `S.SEND` (R189). -/
def sSend (s : State) : State :=
  let q := s.snd.nxt
  let n := segLen s q
  let retx := decide (q < s.snd.max)
  let s1 := pldSubmit (dataFrame s q) .data s.cfg.sPeer retx (s.withCntS (sSendCount retx s.cntS))
  rttArm (s1.withSnd { s1.snd with
    outq := s1.snd.outq ++ [⟨q, n, s1.now, retx⟩]
    nxt := q + n
    max := Nat.max s1.snd.max (q + n) })

/-- `S.ACK_FWD` (R191). A number inside a segment leaves a cursor that lies behind it where it is, as the pseudocode
says; DEDUCED, because the rule's corner case has the next `S.SEND` start at the number (entry 34). -/
def sAckFwd (a : Nat) (s : State) : State :=
  rttOnFwdAck a (s.withSnd { s.snd with
    una := a
    nxt := if s.snd.nxt < a then a else s.snd.nxt
    outq := s.snd.outq.filter fun e => decide (a < e.seq + e.len) })

/-- The marks of `S.FASTRETX` on `s.outq` (R193). -/
def markResent (a : Nat) (t : Time) (q : List OutSeg) : List OutSeg :=
  q.map fun e => if e.seq = a then { e with tSent := t, retx := true } else e

/-- Karn's rule in `S.FASTRETX` (R193, R204). -/
def karn (a : Nat) (t : Option Timed) : Option Timed :=
  match t with
  | none => none
  | some t => if t.done = false ∧ a < t.last then some { t with valid := false } else some t

/-- `S.FASTRETX` (R193). -/
def sFastretx (a : Nat) (s : State) : State :=
  if s.snd.base ≤ a ∧ a < endSeq s ∧ a < s.snd.max then
    let s1 := pldSubmit (dataFrame s a) .data s.cfg.sPeer true
      (s.withCntS { s.cntS with
        segmentsSent := s.cntS.segmentsSent + 1
        retxFast := s.cntS.retxFast + 1 })
    s1.withSnd { s1.snd with
      outq := markResent a s1.now s1.snd.outq
      timed := karn a s1.snd.timed }
  else s

/-- `S.ACK_STALE` (R192). -/
def sAckStale (a : Nat) (s : State) : State :=
  let s1 := s.withCntS { s.cntS with dupAcks := s.cntS.dupAcks + 1 }
  let n := countGet s.snd.dupack a + 1
  if Config.dupAckThreshold ≤ n then
    sFastretx a (s1.withSnd { s1.snd with dupack := countSet s1.snd.dupack a 0 })
  else s1.withSnd { s1.snd with dupack := countSet s1.snd.dupack a n }

/-- `S.RX_DISCARD` (R198): the record of `S.RX` was written already. -/
def sRxDiscard (_p : Packet) (s : State) : State := s

/-- `S.RX_ACK` (R190). -/
def sRxAck (p : Packet) (s : State) : State :=
  if s.snd.max < p.ackNum.toNat then sRxDiscard p s
  else if s.snd.una < p.ackNum.toNat then sAckFwd p.ackNum.toNat s
  else sAckStale p.ackNum.toNat s

/-- The guard of `S.TIMEOUT` (R194, R276). -/
def sTimeoutEnabled (s : State) : Bool :=
  decide (s.snd.phase = .dataTransfer) &&
    match s.snd.outq with
    | [] => false
    | h :: _ => decide (h.tSent + rto s ≤ s.now)

/-- `S.TIMEOUT` (R194). -/
def sTimeout (s : State) : State :=
  (logSnd ⟨.timeout, s.now, some .data, some s.snd.una, 0, some s.snd.rcvNxt⟩ s).withSnd
    { s.snd with nxt := s.snd.una, outq := [], timed := none }

/-- The guard of `S.FIN` (R195). -/
def sFinEnabled (s : State) : Bool :=
  decide (s.snd.phase = .dataTransfer) && decide (s.snd.una = endSeq s)

/-- `S.FIN` (R195). -/
def sFin (s : State) : State :=
  let s1 := pldSubmit (mkFrame s .fin (endSeq s) s.snd.rcvNxt []) .fin s.cfg.sPeer false s
  s1.withSnd { s1.snd with finAcked := false, phase := .finWait }

/-- The guard of `S.RX_FINACK` (R196). -/
def finAckMatches (p : Packet) (s : State) : Bool :=
  !s.snd.finAcked && decide (p.ackNum.toNat = endSeq s + 1)

/-- `S.RX_FINACK` (R196). -/
def sRxFinack (_p : Packet) (s : State) : State := s.withSnd { s.snd with finAcked := true }

/-- `S.RX_PEERFIN` (R197): the final ACK, then the summary (R286), then the channel closes. -/
def sRxPeerfin (p : Packet) (s : State) : State :=
  let s1 := pldSubmit (mkFrame s .ack (endSeq s + 1) (inc32 p.seq.toNat) []) .ack s.cfg.sPeer false s
  (s1.withSumS (s1.sumS ++ [s1.cntS])).withSnd { s1.snd with chanOpen := false, phase := .closed }

/-- The dispatch table of `S.RX` (R185). -/
def sDispatch (p : Packet) (s : State) : State :=
  match s.snd.phase, classify p with
  | .synSent, .synack => sRxSynack p s
  | .dataTransfer, .ack => sRxAck p s
  | .finWait, .ack => if finAckMatches p s then sRxFinack p s else sRxDiscard p s
  | .finWait, .fin => if s.snd.finAcked then sRxPeerfin p s else sRxDiscard p s
  | _, _ => sRxDiscard p s

/-- `S.RX` on the datagram polled (R185). -/
def sReceive (b : Bytes) (s : State) : State :=
  match decodeFrame s.cfg.payloadMax b with
  | .error c => sRxCorrupt b c s
  | .ok p => sDispatch p (logSnd (packetRec s.now p) s)

/-- `S.RX` (R185); a poll that returns none is no step (R68). -/
def sRx (pick : Nat) (s : State) : State :=
  if sndPolls s.snd.phase then
    match chanPoll .rs pick s with
    | none => s
    | some (b, s1) => sReceive b s1
  else s

/-- `S.OPEN` (R184), enabled in `IDLE` under a configuration that `CMD.START` accepts (entry 28). -/
def execSOpen (s : State) : Host.Outcome State Fault Refusal :=
  .next (if s.snd.phase = .idle ∧ senderConfigLegal s.cfg = true then sOpen s else s)

/-- `S.RX` (R185). -/
def execSRx (pick : Nat) (s : State) : Host.Outcome State Fault Refusal := .next (sRx pick s)

/-- `S.RX_CORRUPT` (R186). -/
def execSRxCorrupt (b : Bytes) (c : Cause) (s : State) : Host.Outcome State Fault Refusal :=
  .next (sRxCorrupt b c s)

/-- `S.RX_SYNACK` (R187). -/
def execSRxSynack (p : Packet) (s : State) : Host.Outcome State Fault Refusal :=
  .next (if s.snd.phase = .synSent ∧ classify p = .synack then sRxSynack p s else s)

/-- `S.HSACK` (R188). -/
def execSHsack (s : State) : Host.Outcome State Fault Refusal :=
  .next (if s.snd.phase = .established then sHsack s else s)

/-- `S.SEND` (R189). -/
def execSSend (s : State) : Host.Outcome State Fault Refusal :=
  .next (if sSendEnabled s then sSend s else s)

/-- `S.RX_ACK` (R190). -/
def execSRxAck (p : Packet) (s : State) : Host.Outcome State Fault Refusal :=
  .next (if s.snd.phase = .dataTransfer ∧ classify p = .ack then sRxAck p s else s)

/-- `S.ACK_FWD` (R191). -/
def execSAckFwd (a : Nat) (s : State) : Host.Outcome State Fault Refusal :=
  .next (if s.snd.una < a ∧ a ≤ s.snd.max then sAckFwd a s else s)

/-- `S.ACK_STALE` (R192). -/
def execSAckStale (a : Nat) (s : State) : Host.Outcome State Fault Refusal :=
  .next (if a ≤ s.snd.una then sAckStale a s else s)

/-- `S.FASTRETX` (R193). -/
def execSFastretx (a : Nat) (s : State) : Host.Outcome State Fault Refusal := .next (sFastretx a s)

/-- `S.TIMEOUT` (R194). -/
def execSTimeout (s : State) : Host.Outcome State Fault Refusal :=
  .next (if sTimeoutEnabled s then sTimeout s else s)

/-- `S.FIN` (R195). -/
def execSFin (s : State) : Host.Outcome State Fault Refusal :=
  .next (if sFinEnabled s then sFin s else s)

/-- `S.RX_FINACK` (R196). -/
def execSRxFinack (p : Packet) (s : State) : Host.Outcome State Fault Refusal :=
  .next (if s.snd.phase = .finWait ∧ classify p = .ack ∧ finAckMatches p s = true then
    sRxFinack p s else s)

/-- `S.RX_PEERFIN` (R197). -/
def execSRxPeerfin (p : Packet) (s : State) : Host.Outcome State Fault Refusal :=
  .next (if s.snd.phase = .finWait ∧ classify p = .fin ∧ s.snd.finAcked = true then
    sRxPeerfin p s else s)

/-- `S.RX_DISCARD` (R198). -/
def execSRxDiscard (p : Packet) (s : State) : Host.Outcome State Fault Refusal :=
  .next (sRxDiscard p s)

end Sys2Proof.Machine
end

