-- ==== Sys2Proof/Machine/Environment.lean ====
section
/-! DEFINITION. The environment commands (60_exceptions.md, R290 to R294). -/

namespace Sys2Proof.Machine

open Sys2Proof

/-- `CMD.RESET` (R290, R300): every register to its reset value; `now` is the environment's and stays, as do
the environment's queued choices; `PAYLOAD_MAX` is no register and stays (R31). With `cfg.src_len` 0 the bytes of `SRC`
are none (R63, R300), and what is stored behind them is not changed (R40; entry 17). -/
def cmdReset (s : State) : State :=
  (((State.reset.withNow s.now).withEnv s.env).withSrc s.src).withCfg
    { Cfg.reset with payloadMax := s.cfg.payloadMax }

/-- `CMD.START` in `IDLE` (R291): `S.OPEN` in the same step, or `ConfigError`. -/
def cmdStart (s : State) : State :=
  if senderConfigLegal s.cfg then sOpen s else takeAnomaly (.config .snd) s

/-- The guard of `CMD.CFGWR`: a receiver register while the receiver listens, any other register and `SRC`
while the sender is idle (R75, R292). -/
def cfgWriteEnabled (w : CfgWrite) (s : State) : Bool :=
  match w with
  | .isnR _ => s.rcv.phase == .listen
  | .rcvWnd _ => s.rcv.phase == .listen
  | _ => s.snd.phase == .idle

/-- The write of `CMD.CFGWR` (R292): no range check here; `SRC` also sets `cfg.src_len`. -/
def cfgWrite (w : CfgWrite) (s : State) : State :=
  match w with
  | .sLocal v => s.withCfg { s.cfg with sLocal := v }
  | .sPeer v => s.withCfg { s.cfg with sPeer := v }
  | .window v => s.withCfg { s.cfg with window := v }
  | .mss v => s.withCfg { s.cfg with mss := v }
  | .gamma v => s.withCfg { s.cfg with gamma := v }
  | .isnS v => s.withCfg { s.cfg with isnS := v }
  | .srcLen v => s.withCfg { s.cfg with srcLen := v }
  | .seed v => s.withCfg { s.cfg with seed := v }
  | .pDrop v => s.withCfg { s.cfg with pDrop := v }
  | .pDuplicate v => s.withCfg { s.cfg with pDuplicate := v }
  | .pCorrupt v => s.withCfg { s.cfg with pCorrupt := v }
  | .pReorder v => s.withCfg { s.cfg with pReorder := v }
  | .pDelay v => s.withCfg { s.cfg with pDelay := v }
  | .reorderMaxDelay v => s.withCfg { s.cfg with reorderMaxDelay := v }
  | .delayMaxDelay v => s.withCfg { s.cfg with delayMaxDelay := v }
  | .pldScope v => s.withCfg { s.cfg with pldScope := v }
  | .isnR v => s.withCfg { s.cfg with isnR := v }
  | .rcvWnd v => s.withCfg { s.cfg with rcvWnd := v }
  | .src v => (s.withSrc (memOfBytes 0 v)).withCfg { s.cfg with srcLen := v.length }

/-- `CHAN.LOSE` (R294): the datagram at a place of the direction is gone; under FIFO_RELIABLE the command does
not exist (entry 26). -/
def chanLose (dir : Dir) (i : Nat) (s : State) : State :=
  match Config.channel with
  | .fifoReliable => s
  | .unorderedLossy => chanPut dir ((chanGet dir s).eraseIdx i) s

/-- `CMD.RESET` (R290). -/
def execCmdReset (s : State) : Host.Outcome State Fault Refusal := .next (cmdReset s)

/-- `CMD.START` (R291); ignored outside `IDLE`. -/
def execCmdStart (s : State) : Host.Outcome State Fault Refusal :=
  .next (if s.snd.phase = .idle then cmdStart s else s)

/-- `CMD.CFGWR` (R292); outside its guard it changes nothing. -/
def execCmdCfgwr (w : CfgWrite) (s : State) : Host.Outcome State Fault Refusal :=
  .next (if cfgWriteEnabled w s then cfgWrite w s else s)

/-- `CLOCK.ADVANCE` (R293); a negative operand is no command and changes nothing (entry 24). -/
def execClockAdvance (dt : Time) (s : State) : Host.Outcome State Fault Refusal :=
  .next (if 0 ≤ dt then s.withNow (s.now + dt) else s)

/-- `CHAN.LOSE` (R294). -/
def execChanLose (dir : Dir) (i : Nat) (s : State) : Host.Outcome State Fault Refusal :=
  .next (chanLose dir i s)

end Sys2Proof.Machine
end

