-- ==== Sys2Proof/Machine/Receiver.lean ====
section
/-! DEFINITION. `RCV`, the receiver engine (43_receiver.md). A step whose guard does not hold changes nothing
(entry 4); a sub-operation issued by itself runs under the guard its own rule states (entry 5). -/

namespace Sys2Proof.Machine

open Sys2Proof

/-- The state with `r.phase` written (R22). -/
def setRcvPhase (ph : RcvPhase) (s : State) : State := s.withRcv { s.rcv with phase := ph }

/-- `R.XMIT` (R247): the return leg is not impaired (R69). -/
def rXmit (f : Bytes) (s : State) : State :=
  chanSend .rs f
    (logRcv ⟨.snd, s.now, some (frameType f), some (frameSeq f), 0, some (frameAckNum f)⟩ s)

/-- The phases in which the receiver polls `CHAN.SR` (R230, R231). -/
def rcvPolls (ph : RcvPhase) : Bool :=
  ph == .listen || ph == .awaitAck || ph == .established || ph == .lastAck

/-- `R.RX_CORRUPT` (R232). -/
def rRxCorrupt (b : Bytes) (c : Cause) (s : State) : State :=
  takeAnomaly (.corruption .rcv b.length c) s

/-- `R.RX_SYN` (R233); an illegal `cfg.isn_r` is the `ConfigError` of R264. -/
def rRxSyn (p : Packet) (s : State) : State :=
  if receiverConfigLegal s.cfg then
    ((s.withRcv { s.rcv with
        isn := s.cfg.isnR
        obs := []
        rcvNxt := inc32 p.seq.toNat
        localAddr := p.dst
        peer := p.src
        finSeq := 0
        sinkOpen := true
        phase := .synRcvd }).withCntR CntR.zero).withSink []
  else takeAnomaly (.config .rcv) s

/-- `R.SYNACK` (R234). -/
def rSynack (s : State) : State :=
  setRcvPhase .awaitAck (rXmit (rMkFrame s .synack s.rcv.rcvNxt) s)

/-- `R.RX_HSACK` (R235). -/
def rRxHsack (_p : Packet) (s : State) : State := setRcvPhase .established s

/-- `R.DATA_INORDER` (R237). -/
def rDataInorder (p : Packet) (s : State) : State :=
  let s1 := sinkAppend p.payload s
  let s2 := s1.withRcv { s1.rcv with rcvNxt := (s1.rcv.rcvNxt + p.payload.length) % 2 ^ 32 }
  rXmit (rMkFrame s2 .ack s2.rcv.rcvNxt) s2

/-- `R.DATA_OOO` (R238). -/
def rDataOoo (_p : Packet) (s : State) : State :=
  let s1 := s.withCntR { s.cntR with dupAcks := s.cntR.dupAcks + 1 }
  rXmit (rMkFrame s1 .ack s1.rcv.rcvNxt) s1

/-- The counters and the observation table in `R.RX_DATA`, written before the sequence test (R236). -/
def rObserve (q : Nat) (s : State) : State :=
  (s.withCntR { s.cntR with
      segmentsReceived := s.cntR.segmentsReceived + 1
      segmentsDuplicate :=
        if 1 ≤ countGet s.rcv.obs q then s.cntR.segmentsDuplicate + 1
        else s.cntR.segmentsDuplicate }).withRcv
    { s.rcv with obs := countSet s.rcv.obs q (countGet s.rcv.obs q + 1) }

/-- `R.RX_DATA` (R236). -/
def rRxData (p : Packet) (s : State) : State :=
  let s1 := rObserve p.seq.toNat s
  if p.seq.toNat = s1.rcv.rcvNxt then rDataInorder p s1 else rDataOoo p s1

/-- `R.RX_FIN` (R239). -/
def rRxFin (p : Packet) (s : State) : State :=
  s.withRcv { s.rcv with sinkOpen := false, finSeq := p.seq.toNat, phase := .finRcvd }

/-- `R.CLOSE` (R240): the closing ACK, then the receiver's own FIN. -/
def rClose (s : State) : State :=
  setRcvPhase .lastAck
    (rXmit (rMkFrame s .fin (inc32 s.rcv.finSeq)) (rXmit (rMkFrame s .ack (inc32 s.rcv.finSeq)) s))

/-- `R.RX_LASTACK` (R241): the summary (R286), then `LISTEN`. -/
def rRxLastack (_p : Packet) (s : State) : State :=
  setRcvPhase .listen (s.withSumR (s.sumR ++ [s.cntR]))

/-- `R.RX_DISCARD` (R242): the record of `R.RX` was written already. -/
def rRxDiscard (_p : Packet) (s : State) : State := s

/-- The dispatch table of `R.RX` (R231). -/
def rDispatch (p : Packet) (s : State) : State :=
  match s.rcv.phase, classify p with
  | .listen, .syn => rRxSyn p s
  | .awaitAck, .ack => rRxHsack p s
  | .established, .data => rRxData p s
  | .established, .fin => rRxFin p s
  | .lastAck, .ack => rRxLastack p s
  | _, _ => rRxDiscard p s

/-- `R.RX` on the datagram polled (R231). -/
def rReceive (b : Bytes) (s : State) : State :=
  match decodeFrame s.cfg.payloadMax b with
  | .error c => rRxCorrupt b c s
  | .ok p => rDispatch p (logRcv (packetRec s.now p) s)

/-- `R.RX` (R231); a poll that returns none is no step (R68). -/
def rRx (pick : Nat) (s : State) : State :=
  if rcvPolls s.rcv.phase then
    match chanPoll .sr pick s with
    | none => s
    | some (b, s1) => rReceive b s1
  else s

/-- `R.RX` (R231). -/
def execRRx (pick : Nat) (s : State) : Host.Outcome State Fault Refusal := .next (rRx pick s)

/-- `R.RX_CORRUPT` (R232). -/
def execRRxCorrupt (b : Bytes) (c : Cause) (s : State) : Host.Outcome State Fault Refusal :=
  .next (rRxCorrupt b c s)

/-- `R.RX_SYN` (R233). -/
def execRRxSyn (p : Packet) (s : State) : Host.Outcome State Fault Refusal :=
  .next (if s.rcv.phase = .listen ∧ classify p = .syn then rRxSyn p s else s)

/-- `R.SYNACK` (R234). -/
def execRSynack (s : State) : Host.Outcome State Fault Refusal :=
  .next (if s.rcv.phase = .synRcvd then rSynack s else s)

/-- `R.RX_HSACK` (R235). -/
def execRRxHsack (p : Packet) (s : State) : Host.Outcome State Fault Refusal :=
  .next (if s.rcv.phase = .awaitAck ∧ classify p = .ack then rRxHsack p s else s)

/-- `R.RX_DATA` (R236). -/
def execRRxData (p : Packet) (s : State) : Host.Outcome State Fault Refusal :=
  .next (if s.rcv.phase = .established ∧ classify p = .data then rRxData p s else s)

/-- `R.DATA_INORDER` (R237). -/
def execRDataInorder (p : Packet) (s : State) : Host.Outcome State Fault Refusal :=
  .next (if p.seq.toNat = s.rcv.rcvNxt then rDataInorder p s else s)

/-- `R.DATA_OOO` (R238). -/
def execRDataOoo (p : Packet) (s : State) : Host.Outcome State Fault Refusal :=
  .next (if p.seq.toNat ≠ s.rcv.rcvNxt then rDataOoo p s else s)

/-- `R.RX_FIN` (R239). -/
def execRRxFin (p : Packet) (s : State) : Host.Outcome State Fault Refusal :=
  .next (if s.rcv.phase = .established ∧ classify p = .fin then rRxFin p s else s)

/-- `R.CLOSE` (R240). -/
def execRClose (s : State) : Host.Outcome State Fault Refusal :=
  .next (if s.rcv.phase = .finRcvd then rClose s else s)

/-- `R.RX_LASTACK` (R241). -/
def execRRxLastack (p : Packet) (s : State) : Host.Outcome State Fault Refusal :=
  .next (if s.rcv.phase = .lastAck ∧ classify p = .ack then rRxLastack p s else s)

/-- `R.RX_DISCARD` (R242). -/
def execRRxDiscard (p : Packet) (s : State) : Host.Outcome State Fault Refusal :=
  .next (rRxDiscard p s)

end Sys2Proof.Machine
end

