-- ==== Sys2Proof/Machine/Frames.lean ====
section
/-! DEFINITION. The five frame types as operations: the engine at the end of the direction polls the frame and
runs the rule that its phase and the frame's type select (R98, R185, R231; entry 7). -/

namespace Sys2Proof.Machine

open Sys2Proof

/-- The engine at the end of `dir` is handed a datagram as the one its poll returned; an engine that does not
poll in its phase leaves it alone (R185, R231, R267; entry 7). -/
def pollDatagram (dir : Dir) (b : Bytes) (s : State) : State :=
  match dir with
  | .sr => if rcvPolls s.rcv.phase then rReceive b s else s
  | .rs => if sndPolls s.snd.phase then sReceive b s else s

/-- A `SYN` frame (R98, handled by R233). -/
def execSyn (dir : Dir) (w : WireFrame) (s : State) : Host.Outcome State Fault Refusal :=
  .next (pollDatagram dir (wireBytes w) s)

/-- A `SYNACK` frame (R98, handled by R187). -/
def execSynack (dir : Dir) (w : WireFrame) (s : State) : Host.Outcome State Fault Refusal :=
  .next (pollDatagram dir (wireBytes w) s)

/-- An `ACK` frame (R98, handled by R190, R196, R235, R241). -/
def execAck (dir : Dir) (w : WireFrame) (s : State) : Host.Outcome State Fault Refusal :=
  .next (pollDatagram dir (wireBytes w) s)

/-- A `DATA` frame (R98, handled by R236). -/
def execData (dir : Dir) (w : WireFrame) (s : State) : Host.Outcome State Fault Refusal :=
  .next (pollDatagram dir (wireBytes w) s)

/-- A `FIN` frame (R98, handled by R239, R197). -/
def execFin (dir : Dir) (w : WireFrame) (s : State) : Host.Outcome State Fault Refusal :=
  .next (pollDatagram dir (wireBytes w) s)

end Sys2Proof.Machine
end

