-- ==== Sys2Proof/Machine/Dispatch.lean ====
section
/-! DEFINITION. The dispatch of an operation to its meaning, one arm per constructor. -/

namespace Sys2Proof.Machine

open Sys2Proof

/-- The meaning of an operation. -/
def exec (i : Instr) (s : State) : Host.Outcome State Fault Refusal :=
  match i with
  | .syn dir w => Sys2Proof.Machine.execSyn dir w s
  | .synack dir w => Sys2Proof.Machine.execSynack dir w s
  | .ack dir w => Sys2Proof.Machine.execAck dir w s
  | .data dir w => Sys2Proof.Machine.execData dir w s
  | .fin dir w => Sys2Proof.Machine.execFin dir w s
  | .encode p => Sys2Proof.Machine.execEncode p s
  | .decode f => Sys2Proof.Machine.execDecode f s
  | .flip6 f => Sys2Proof.Machine.execFlip6 f s
  | .classify p => Sys2Proof.Machine.execClassify p s
  | .pldSubmit f ty dest retx => Sys2Proof.Machine.execPldSubmit f ty dest retx s
  | .pldProcess f dest retx => Sys2Proof.Machine.execPldProcess f dest retx s
  | .pldDrop f retx => Sys2Proof.Machine.execPldDrop f retx s
  | .pldDup f dest retx => Sys2Proof.Machine.execPldDup f dest retx s
  | .pldCorrupt f dest retx => Sys2Proof.Machine.execPldCorrupt f dest retx s
  | .pldHold f dest retx => Sys2Proof.Machine.execPldHold f dest retx s
  | .pldDelay f dest retx => Sys2Proof.Machine.execPldDelay f dest retx s
  | .pldPass f dest retx => Sys2Proof.Machine.execPldPass f dest retx s
  | .pldTickheld => Sys2Proof.Machine.execPldTickheld s
  | .dlyFire m => Sys2Proof.Machine.execDlyFire m s
  | .pldBypass f dest => Sys2Proof.Machine.execPldBypass f dest s
  | .xmit f dest => Sys2Proof.Machine.execXmit f dest s
  | .sOpen => Sys2Proof.Machine.execSOpen s
  | .sRx pick => Sys2Proof.Machine.execSRx pick s
  | .sRxCorrupt b c => Sys2Proof.Machine.execSRxCorrupt b c s
  | .sRxSynack p => Sys2Proof.Machine.execSRxSynack p s
  | .sHsack => Sys2Proof.Machine.execSHsack s
  | .sSend => Sys2Proof.Machine.execSSend s
  | .sRxAck p => Sys2Proof.Machine.execSRxAck p s
  | .sAckFwd a => Sys2Proof.Machine.execSAckFwd a s
  | .sAckStale a => Sys2Proof.Machine.execSAckStale a s
  | .sFastretx a => Sys2Proof.Machine.execSFastretx a s
  | .sTimeout => Sys2Proof.Machine.execSTimeout s
  | .sFin => Sys2Proof.Machine.execSFin s
  | .sRxFinack p => Sys2Proof.Machine.execSRxFinack p s
  | .sRxPeerfin p => Sys2Proof.Machine.execSRxPeerfin p s
  | .sRxDiscard p => Sys2Proof.Machine.execSRxDiscard p s
  | .rRx pick => Sys2Proof.Machine.execRRx pick s
  | .rRxCorrupt b c => Sys2Proof.Machine.execRRxCorrupt b c s
  | .rRxSyn p => Sys2Proof.Machine.execRRxSyn p s
  | .rSynack => Sys2Proof.Machine.execRSynack s
  | .rRxHsack p => Sys2Proof.Machine.execRRxHsack p s
  | .rRxData p => Sys2Proof.Machine.execRRxData p s
  | .rDataInorder p => Sys2Proof.Machine.execRDataInorder p s
  | .rDataOoo p => Sys2Proof.Machine.execRDataOoo p s
  | .rRxFin p => Sys2Proof.Machine.execRRxFin p s
  | .rClose => Sys2Proof.Machine.execRClose s
  | .rRxLastack p => Sys2Proof.Machine.execRRxLastack p s
  | .rRxDiscard p => Sys2Proof.Machine.execRRxDiscard p s
  | .cmdReset => Sys2Proof.Machine.execCmdReset s
  | .cmdStart => Sys2Proof.Machine.execCmdStart s
  | .cmdCfgwr w => Sys2Proof.Machine.execCmdCfgwr w s
  | .clockAdvance dt => Sys2Proof.Machine.execClockAdvance dt s
  | .chanLose dir n => Sys2Proof.Machine.execChanLose dir n s

end Sys2Proof.Machine
end

