-- ==== Sys2Proof/Machine/Fetch.lean ====
section
/-! DEFINITION. Fetching the environment's next choice, and what happens with a slot that stands for no row of
the opcode table. -/

namespace Sys2Proof.Machine

open Sys2Proof

/-- The head of the schedule and the state without it (R43, R70; entry 1). -/
def fetch (s : State) : Option (Slot × State) :=
  match s.env.sched with
  | [] => none
  | slot :: rest => some (slot, s.withEnv { s.env with sched := rest })

/-- A slot the decoder rejects. A datagram is polled all the same: the engine finds it too short, too long,
damaged or of a reserved type (R100, R232, R242). A code no row has is refused (R104). -/
def undecoded (slot : Slot) (s : State) : Host.Outcome State Fault Refusal :=
  match slot with
  | .frame dir b => .next (pollDatagram dir b s)
  | .event code _ => .refused (.undefinedCode code)

/-- The state with a slot put before the rest of the schedule. -/
def pushSlot (slot : Slot) (s : State) : State :=
  s.withEnv { s.env with sched := slot :: s.env.sched }

end Sys2Proof.Machine
end

