-- ==== Sys2Proof/Machine/Step.lean ====
section
/-! DEFINITION. One step: the environment's next choice is fetched, decoded and run; with nothing queued
nothing happens (R289; entry 2). -/

namespace Sys2Proof.Machine

open Sys2Proof

/-- One step of the machine. -/
def step (s : State) : Host.Outcome State Fault Refusal :=
  match fetch s with
  | none => .next s
  | some (slot, s1) =>
    match decode s.cfg.payloadMax slot with
    | .ok i => exec i s1
    | .error _ => undecoded slot s1

/-- The state whose next step runs the operation that the opcode table numbers as the `nbits`-bit word `w`: its
slot stands at the head of the schedule (entry 2). -/
def State.withFetchWord (s : State) (nbits w : Nat) : State := pushSlot (tableSlot nbits w) s

end Sys2Proof.Machine
end

