-- ==== Sys2Proof/Machine/Run.lean ====
section
/-! DEFINITION. When a run is over and what is observed of it then (R199, R311, R322). -/

namespace Sys2Proof.Machine

open Sys2Proof

/-- A run of the sender is over (R199). -/
def senderOver (s : State) : Bool := s.snd.phase == .closed && s.pld.pending.isEmpty

/-- A run of the block is over (R322): the sender is closed, the receiver listens behind a finalized sink, `chan.SR`
is drained and so, as R311 asks, is `pld.pending`. `chan.RS` and `pld.held` are no part of the condition. -/
def runEnded (s : State) : Bool :=
  senderOver s && s.rcv.phase == .listen && !s.rcv.sinkOpen && s.chanSR.isEmpty

/-- The observation at the end of a run (R322), with the frame that may still be held (R310). -/
structure Observation where
  sink : Bytes
  cntS : CntS
  cntR : CntR
  logS : List LogRec
  logR : List LogRec
  sumS : List CntS
  sumR : List CntR
  sndPhase : SndPhase
  rcvPhase : RcvPhase
  held : Option Held
deriving DecidableEq, Repr

/-- What R322 observes of a state. -/
def observe (s : State) : Observation where
  sink := s.sink
  cntS := s.cntS
  cntR := s.cntR
  logS := s.logS
  logR := s.logR
  sumS := s.sumS
  sumR := s.sumR
  sndPhase := s.snd.phase
  rcvPhase := s.rcv.phase
  held := s.pld.held

/-- The observation of the first end state within `k` steps; a run that reaches none has no end state (R322). -/
def endOfRun : Nat → State → Option Observation
  | 0, s => if runEnded s then some (observe s) else none
  | k + 1, s =>
    if runEnded s then some (observe s)
    else
      match step s with
      | .next t => endOfRun k t
      | .fault _ => none
      | .refused _ => none

end Sys2Proof.Machine
end

