-- ==== Sys2Proof/Safety.lean ====
section
/-! DEFINITION. What a safe state is, in the terms the statements use: the invariants between registers that
the rules state (R26, R41, R164, R205, R206, R209, R245, R246), who may write what (R42), and the phase
tables (R210, R244). -/

namespace Sys2Proof.Machine

open Sys2Proof

/-- A sequence of operations run one after the other, for rules whose pseudocode lists several operations. -/
def execAll : List Instr → State → Host.Outcome State Fault Refusal
  | [], s => .next s
  | i :: is, s =>
    match exec i s with
    | .next t => execAll is t
    | .fault r => .fault r
    | .refused r => .refused r

/-- The pointer inequalities of R41 and the window bound of R205, in every phase; in `IDLE` the pointers are 0,
and outside it the configuration is one that `CMD.START` accepts (R75) and `s.base` is its base (R184). -/
def windowSafe (s : State) : Prop :=
  s.snd.base ≤ s.snd.una ∧ s.snd.una ≤ s.snd.nxt ∧ s.snd.nxt ≤ s.snd.max ∧ s.snd.max ≤ endSeq s ∧
    s.snd.max < 2 ^ 32 ∧ s.snd.nxt - s.snd.una ≤ s.cfg.window ∧
    (s.snd.phase = .idle → s.snd.max = 0) ∧
    (s.snd.phase ≠ .idle → senderConfigLegal s.cfg = true ∧ s.snd.base = s.cfg.isnS + 1)

/-- Each entry of a queue starts where the one before it ends. -/
def contiguous : List OutSeg → Prop
  | [] => True
  | [_] => True
  | e :: f :: q => e.seq + e.len = f.seq ∧ contiguous (f :: q)

/-- What R41 says of `s.outq`: every entry ends behind `s.una` and at most at `s.nxt`, the entries are contiguous,
the last ends at `s.nxt`, the first starts at most at `s.una`; an empty queue means nothing is outstanding (R194). -/
def outqSafe (s : State) : Prop :=
  (∀ e ∈ s.snd.outq, s.snd.una < e.seq + e.len ∧ e.seq + e.len ≤ s.snd.nxt) ∧
    contiguous s.snd.outq ∧
    (∀ e, s.snd.outq.getLast? = some e → e.seq + e.len = s.snd.nxt) ∧
    (∀ e, s.snd.outq.head? = some e → e.seq ≤ s.snd.una) ∧
    (s.snd.outq = [] → s.snd.una = s.snd.nxt)

/-- Times: the clock is not negative, no recorded time lies after it, and both estimator registers are not
negative (R200, R206, R275). -/
def timeSafe (s : State) : Prop :=
  0 ≤ s.now ∧ 0 ≤ s.snd.ertt ∧ 0 ≤ s.snd.drtt ∧ (∀ e ∈ s.snd.outq, e.tSent ≤ s.now) ∧
    (∀ t, s.snd.timed = some t → t.t0 ≤ s.now)

/-- R26 and R164: nothing held means no wait, and outside `IDLE` the wait stays below its bound, which is at
least 1 (R159). -/
def holdSafe (s : State) : Prop :=
  (s.pld.held = none → s.pld.wait = 0) ∧
    (s.snd.phase ≠ .idle → 1 ≤ s.cfg.reorderMaxDelay ∧ s.pld.wait < s.cfg.reorderMaxDelay)

/-- The counter laws of R246 over the observation table, which is canonical. -/
def countersSafe (s : State) : Prop :=
  countWf s.rcv.obs = true ∧ s.cntR.segmentsReceived = countSum (fun n => n) s.rcv.obs ∧
    s.cntR.segmentsDuplicate = countSum (fun n => n - 1) s.rcv.obs

/-- The phases between `S.OPEN` and the entry to `CLOSED` (R27). -/
def chanPhase (ph : SndPhase) : Bool := ph != .idle && ph != .closed

/-- The phases between `R.RX_SYN` and `R.RX_FIN` (R27). -/
def sinkPhase (ph : RcvPhase) : Bool := ph == .synRcvd || ph == .awaitAck || ph == .established

/-- The two handle flags of R27 follow their phases, `SRC` and the duplicate-ACK table are canonical, and the
receiver's numbers fit in 32 bits (R13, R247). -/
def registersSafe (s : State) : Prop :=
  s.snd.chanOpen = chanPhase s.snd.phase ∧ s.rcv.sinkOpen = sinkPhase s.rcv.phase ∧
    Memory.wf s.src = true ∧ countWf s.snd.dupack = true ∧ s.rcv.rcvNxt < 2 ^ 32 ∧
    s.rcv.isn + 2 < 2 ^ 32 ∧ s.rcv.finSeq < 2 ^ 32 ∧ s.snd.rcvNxt < 2 ^ 32

/-- The steps of R14: the rules that are not sub-operations, and the environment's commands. -/
def isStep (i : Instr) : Bool :=
  match i with
  | .dlyFire _ => true
  | .sOpen => true
  | .sRx _ => true
  | .sHsack => true
  | .sSend => true
  | .sTimeout => true
  | .sFin => true
  | .rRx _ => true
  | .rSynack => true
  | .rClose => true
  | .cmdReset => true
  | .cmdStart => true
  | .cmdCfgwr _ => true
  | .clockAdvance _ => true
  | .chanLose _ _ => true
  | _ => false

/-- What R209 says of a packet the sender builds: a `SYN` carries `ISN_S`, and a `DATA` packet at `q` carries the
source bytes at `OFF(q)`. -/
def sentPacket (s : State) (p : Packet) : Prop :=
  p.payload.length ≤ s.cfg.payloadMax ∧
    (classify p = .syn → p.seq.toNat = s.cfg.isnS) ∧
    (classify p = .data → s.snd.base ≤ p.seq.toNat ∧ p.seq.toNat < endSeq s ∧
      p.payload = segBytes s p.seq.toNat)

/-- A frame that the sender encoded (R164, R209). -/
def sentFrame (s : State) (f : Bytes) : Prop := ∃ p, sentPacket s p ∧ f = (encodeFrame s.cfg.payloadMax p).1

/-- A datagram of `chan.SR`: a frame the sender encoded, or `FLIP6` of one (R164). -/
def sentDatagram (s : State) (b : Bytes) : Prop := ∃ f, sentFrame s f ∧ (b = f ∨ b = flip6 f)

/-- Exactly-once, in-order delivery (R245): whatever is on its way was sent by this block's sender, and `SINK` is
the source up to the number the receiver expects next. In `IDLE` nothing is on its way and the receiver listens. -/
def deliverySafe (s : State) : Prop :=
  (∀ b ∈ s.chanSR, sentDatagram s b) ∧ (∀ m ∈ s.pld.pending, sentFrame s m.frame) ∧
    (∀ h, s.pld.held = some h → sentFrame s h.frame) ∧
    (s.snd.phase = .idle →
      s.chanSR = [] ∧ s.pld.pending = [] ∧ s.pld.held = none ∧ s.rcv.phase = .listen ∧
        s.rcv.rcvNxt = 0) ∧
    (s.rcv.phase ≠ .listen → s.snd.base ≤ s.rcv.rcvNxt ∧ s.rcv.rcvNxt ≤ endSeq s) ∧
    s.sink = memReadN s.src 0 (s.rcv.rcvNxt - s.snd.base)

/-- The unit whose step an operation is (R7, R14, R42); a frame is polled by the engine at its direction's end. -/
inductive Owner where
  | codec
  | snd
  | dly
  | rcv
  | host
  | clock
  | chan
  | reset
deriving DecidableEq, Repr

/-- The engine that polls a direction (R60). -/
def pollOwner (d : Dir) : Owner :=
  match d with
  | .sr => .rcv
  | .rs => .snd

/-- Who executes an operation (R7, R42). `PLD` operations are the sender's. -/
def ownerOf (i : Instr) : Owner :=
  match i with
  | .syn d _ => pollOwner d
  | .synack d _ => pollOwner d
  | .ack d _ => pollOwner d
  | .data d _ => pollOwner d
  | .fin d _ => pollOwner d
  | .encode _ => .codec
  | .decode _ => .codec
  | .flip6 _ => .codec
  | .classify _ => .codec
  | .pldSubmit _ _ _ _ => .snd
  | .pldProcess _ _ _ => .snd
  | .pldDrop _ _ => .snd
  | .pldDup _ _ _ => .snd
  | .pldCorrupt _ _ _ => .snd
  | .pldHold _ _ _ => .snd
  | .pldDelay _ _ _ => .snd
  | .pldPass _ _ _ => .snd
  | .pldTickheld => .snd
  | .dlyFire _ => .dly
  | .pldBypass _ _ => .snd
  | .xmit _ _ => .snd
  | .sOpen => .snd
  | .sRx _ => .snd
  | .sRxCorrupt _ _ => .snd
  | .sRxSynack _ => .snd
  | .sHsack => .snd
  | .sSend => .snd
  | .sRxAck _ => .snd
  | .sAckFwd _ => .snd
  | .sAckStale _ => .snd
  | .sFastretx _ => .snd
  | .sTimeout => .snd
  | .sFin => .snd
  | .sRxFinack _ => .snd
  | .sRxPeerfin _ => .snd
  | .sRxDiscard _ => .snd
  | .rRx _ => .rcv
  | .rRxCorrupt _ _ => .rcv
  | .rRxSyn _ => .rcv
  | .rSynack => .rcv
  | .rRxHsack _ => .rcv
  | .rRxData _ => .rcv
  | .rDataInorder _ => .rcv
  | .rDataOoo _ => .rcv
  | .rRxFin _ => .rcv
  | .rClose => .rcv
  | .rRxLastack _ => .rcv
  | .rRxDiscard _ => .rcv
  | .cmdReset => .reset
  | .cmdStart => .snd
  | .cmdCfgwr _ => .host
  | .clockAdvance _ => .clock
  | .chanLose _ _ => .chan

/-- Two states agree on what `SND` owns (R42): its registers, its counters, the injector's hold and the emitted
sender summaries. -/
def sameSender (s t : State) : Prop :=
  t.snd = s.snd ∧ t.cntS = s.cntS ∧ t.pld.held = s.pld.held ∧ t.pld.wait = s.pld.wait ∧
    t.sumS = s.sumS

/-- Two states agree on what `RCV` owns (R42): its registers, its counters, `SINK`, its log and its summaries. -/
def sameReceiver (s t : State) : Prop :=
  t.rcv = s.rcv ∧ t.cntR = s.cntR ∧ t.sink = s.sink ∧ t.logR = s.logR ∧ t.sumR = s.sumR

/-- A datagram that `DECODE` accepts as a packet of type `ty` (R132, R134). -/
def validAs (s : State) (ty : FrameType) (b : Bytes) : Prop :=
  ∃ p, decodeFrame s.cfg.payloadMax b = .ok p ∧ classify p = ty

/-- `S.RX` whose poll returns a valid datagram of type `ty` (R68, R185). -/
def sPolls (ty : FrameType) (i : Instr) (s : State) : Prop :=
  ∃ n b, i = .sRx n ∧ s.chanRS[pollIndex n]? = some b ∧ validAs s ty b

/-- `R.RX` whose poll returns a valid datagram of type `ty` (R68, R231). -/
def rPolls (ty : FrameType) (i : Instr) (s : State) : Prop :=
  ∃ n b, i = .rRx n ∧ s.chanSR[pollIndex n]? = some b ∧ validAs s ty b

/-- The operations whose rule is a row of the table of R210 from `a` to another phase `b`, with the condition of that
row: an operation that polls a datagram polls a valid one of the row's type. -/
def sndMove (i : Instr) (s : State) (a b : SndPhase) : Prop :=
  match a, b with
  | .idle, .synSent => (i = .cmdStart ∨ i = .sOpen) ∧ senderConfigLegal s.cfg = true
  | .synSent, .established =>
    sPolls .synack i s ∨ (∃ p, i = .sRxSynack p ∧ classify p = .synack) ∨
      (∃ w, i = .synack .rs w ∧ validAs s .synack (wireBytes w))
  | .established, .dataTransfer => i = .sHsack
  | .dataTransfer, .finWait => i = .sFin ∧ s.snd.una = endSeq s
  | .finWait, .closed =>
    s.snd.finAcked = true ∧
      (sPolls .fin i s ∨ (∃ p, i = .sRxPeerfin p ∧ classify p = .fin) ∨
        (∃ w, i = .fin .rs w ∧ validAs s .fin (wireBytes w)))
  | _, .idle => i = .cmdReset
  | _, _ => False

/-- The operations whose rule is a row of the table of R244 from `a` to another phase `b`, with the condition of that
row: an operation that polls a datagram polls a valid one of the row's type. -/
def rcvMove (i : Instr) (s : State) (a b : RcvPhase) : Prop :=
  match a, b with
  | .listen, .synRcvd =>
    receiverConfigLegal s.cfg = true ∧
      (rPolls .syn i s ∨ (∃ p, i = .rRxSyn p ∧ classify p = .syn) ∨
        (∃ w, i = .syn .sr w ∧ validAs s .syn (wireBytes w)))
  | .synRcvd, .awaitAck => i = .rSynack
  | .awaitAck, .established =>
    rPolls .ack i s ∨ (∃ p, i = .rRxHsack p ∧ classify p = .ack) ∨
      (∃ w, i = .ack .sr w ∧ validAs s .ack (wireBytes w))
  | .established, .finRcvd =>
    rPolls .fin i s ∨ (∃ p, i = .rRxFin p ∧ classify p = .fin) ∨
      (∃ w, i = .fin .sr w ∧ validAs s .fin (wireBytes w))
  | .finRcvd, .lastAck => i = .rClose
  | .lastAck, .listen =>
    i = .cmdReset ∨ rPolls .ack i s ∨ (∃ p, i = .rRxLastack p ∧ classify p = .ack) ∨
      (∃ w, i = .ack .sr w ∧ validAs s .ack (wireBytes w))
  | _, .listen => i = .cmdReset
  | _, _ => False

end Sys2Proof.Machine
end

