-- ==== Sys2Proof/Certificates/Slice0/Obligations.lean ====
section
/-! DEFINITION. The statements for the provers. -/

open Sys2Proof Sys2Proof.Machine

/-! ### Encoding -/

/-- R131: `ENCODE` serializes the header with the checksum zeroed, takes the digest over the full buffer, and
serializes again with the digest embedded, last digest byte first behind four zero bytes; a payload above
`PAYLOAD_MAX` is refused. Nothing but the caller's answer changes. -/
def Obligations.EncodeEmbedsTheDigest : Prop :=
  ∀ (p : Packet) (s : State),
    let d := digest4 s.cfg.payloadMax
      ([p.src.b0, p.src.b1, p.src.b2, p.src.b3, p.dst.b0, p.dst.b1, p.dst.b2, p.dst.b3] ++
        quadBytes (be32 p.seq) ++ quadBytes (be32 p.ackNum) ++ quadBytes (be32 p.window) ++
        [if p.syn then 1#8 else 0#8, if p.ack then 1#8 else 0#8, if p.fin then 1#8 else 0#8, 0#8,
          0#8, 0#8, 0#8, 0#8, 0#8, 0#8, 0#8, 0#8] ++ p.payload)
    let f :=
      [p.src.b0, p.src.b1, p.src.b2, p.src.b3, p.dst.b0, p.dst.b1, p.dst.b2, p.dst.b3] ++
        quadBytes (be32 p.seq) ++ quadBytes (be32 p.ackNum) ++ quadBytes (be32 p.window) ++
        [if p.syn then 1#8 else 0#8, if p.ack then 1#8 else 0#8, if p.fin then 1#8 else 0#8, 0#8,
          0#8, 0#8, 0#8, 0#8, d.b3, d.b2, d.b1, d.b0] ++ p.payload
    let c := BitVec.ofNat 64
      (d.b0.toNat + 256 * d.b1.toNat + 65536 * d.b2.toNat + 16777216 * d.b3.toNat)
    (p.payload.length ≤ s.cfg.payloadMax →
      exec (.encode p) s = .next { s with result := .encoded f { p with checksum := c } }) ∧
    (s.cfg.payloadMax < p.payload.length → exec (.encode p) s = .refused .payloadTooLong)

/-- R132: `DECODE` tests the length, then the digest, and otherwise answers every field from its place. -/
def Obligations.DecodeTestsLengthThenDigest : Prop :=
  ∀ (f : Bytes) (s : State),
    let stored := beInt8 (quadAt f 24) (quadAt f 28)
    let d := digest4 s.cfg.payloadMax (f.take 24 ++ List.replicate 8 0#8 ++ f.drop 32)
    let c := BitVec.ofNat 64
      (d.b0.toNat + 256 * d.b1.toNat + 65536 * d.b2.toNat + 16777216 * d.b3.toNat)
    exec (.decode f) s = .next { s with
      result :=
        if f.length < 32 then .corruption .short
        else if 32 + s.cfg.payloadMax < f.length then .corruption .long
        else if stored ≠ c then .corruption .digest
        else .decoded {
          src := quadAt f 0, dst := quadAt f 4, seq := beInt4 (quadAt f 8)
          ackNum := beInt4 (quadAt f 12), window := beInt4 (quadAt f 16)
          syn := byteAt f 20 != 0#8, ack := byteAt f 21 != 0#8, fin := byteAt f 22 != 0#8
          checksum := stored, payload := f.drop 32 } }

/-- R133, R139: `FLIP6` of a string of at least 7 bytes answers it with byte 6 xored with 101 and every other byte as
it was, and is its own inverse there. A shorter string, on which the rule says nothing, gets some answer (entry 35). -/
def Obligations.FlipChangesByteSixOnly : Prop :=
  ∀ (f : Bytes) (s : State),
    (7 ≤ f.length →
      ∃ g, exec (.flip6 f) s = .next { s with result := .flipped g } ∧
        g.length = f.length ∧ g[6]? = (f[6]?).map (fun b => b ^^^ 0x65#8) ∧
        (∀ i, i ≠ 6 → g[i]? = f[i]?) ∧
        exec (.flip6 g) s = .next { s with result := .flipped f }) ∧
    (f.length < 7 → ∃ g, exec (.flip6 f) s = .next { s with result := .flipped g })

/-- R134: `CLASSIFY` answers the type that the three flags select. -/
def Obligations.ClassifyFollowsTheFlagTable : Prop :=
  ∀ (p : Packet) (s : State),
    exec (.classify p) s = .next { s with
      result := .classified
        (if p.fin then (if p.syn || p.ack then .rsv else .fin)
        else if p.syn then (if p.ack then .synack else .syn)
        else if p.ack then .ack else .data) }

/-- R135, the round trip: decoding an encoded packet gives the packet completed with its checksum, which equals
the packet in every other field. Like every statement here, it holds for each value of `PAYLOAD_MAX` (R92). -/
def Obligations.DecodeUndoesEncode : Prop :=
  ∀ (pm : Nat) (p : Packet), p.payload.length ≤ pm →
    decodeFrame pm (encodeFrame pm p).1 = .ok (encodeFrame pm p).2 ∧
      ∃ c, (encodeFrame pm p).2 = { p with checksum := c }

/-- R138: a frame whose byte 6 was flipped after encoding fails the digest test. -/
def Obligations.FlippedFrameFailsTheDigest : Prop :=
  ∀ (pm : Nat) (p : Packet), p.payload.length ≤ pm →
    decodeFrame pm (flip6 (encodeFrame pm p).1) = .error .digest

/-- P2 of R136 on its domain, for every `PAYLOAD_MAX`: the model's `digest4`, which is an arbitrary function there but
for P2 (entry 9), has it, and so has the test digest of R137 for every length from 32 to 132; the check value of R137. -/
def Obligations.DigestSeesTheFlippedByte : Prop :=
  (∀ (pm : Nat) (m : Bytes), 32 ≤ m.length → m.length ≤ 32 + pm →
    (m.drop 24).take 8 = List.replicate 8 0#8 → digest4 pm m ≠ digest4 pm (flip6 m)) ∧
  (∀ m : Bytes, 32 ≤ m.length → m.length ≤ 132 → digest4Ref m ≠ digest4Ref (flip6 m)) ∧
  digest4Ref [0x31#8, 0x32#8, 0x33#8, 0x34#8, 0x35#8, 0x36#8, 0x37#8, 0x38#8, 0x39#8] =
    ⟨0xCB#8, 0xF4#8, 0x39#8, 0x26#8⟩

/-- Decode and encode agree: every operation whose operands are admitted is read back from its slot.
The operand places of a slot are the model's (entry 3). -/
def Obligations.EveryOperationIsReadBack : Prop :=
  ∀ (pm : Nat) (i : Instr), i.wf pm = true → decode pm (encode i) = .ok i

/-- R91, R92, R98, R100: a datagram that decodes to a frame operation is the bytes of that operation, of a length
from 32 to `FRAME_MAX`, and every other datagram of such a length has a reserved flag combination. That a datagram is a
slot is the model's (entries 3, 7). -/
def Obligations.DatagramsDecodeExactly : Prop :=
  ∀ (pm : Nat) (d : Dir) (b : Bytes),
    (∀ i, decode pm (.frame d b) = .ok i →
      encode i = .frame d b ∧ i.wf pm = true ∧ 32 ≤ b.length ∧ b.length ≤ 32 + pm) ∧
    (b.length < 32 → decode pm (.frame d b) = .error .shortFrame) ∧
    (32 + pm < b.length → decode pm (.frame d b) = .error .longFrame) ∧
    (32 ≤ b.length → b.length ≤ 32 + pm → (∀ i, decode pm (.frame d b) ≠ .ok i) →
      byteAt b 22 ≠ 0#8 ∧ (byteAt b 20 ≠ 0#8 ∨ byteAt b 21 ≠ 0#8))

/-- A few slots written out from R104 and R99, the direction of a frame word being the model's (entry 8). -/
def Obligations.WrittenOutSlotsDecode : Prop :=
  decodeTableWord 8 0b01000101 = some .sSend ∧ decodeTableWord 8 0b00101000 = some .pldTickheld ∧
    decodeTableWord 8 0b01101001 = some .rClose ∧ decodeTableWord 8 0b10000000 = some .cmdReset ∧
    decodeTableWord 8 0b01001111 = none ∧ decodeTableWord 8 0b10000101 = none ∧
    (∃ w, decodeTableWord 24 0x010100 = some (.synack .rs w) ∧ w.synByte = 1#8 ∧ w.ackByte = 1#8 ∧
      w.finByte = 0#8) ∧
    (∃ w, decodeTableWord 24 0x000001 = some (.fin .sr w) ∧ w.synByte = 0#8 ∧ w.ackByte = 0#8 ∧
      w.finByte = 1#8)

/-- R284 and R153: the log record of an encoded frame's bytes shows the packet behind it. -/
def Obligations.LogRecordShowsThePacket : Prop :=
  ∀ (pm : Nat) (tag : LogTag) (t : Time) (p : Packet),
    frameRec tag t (encodeFrame pm p).1 =
      ⟨tag, t, some (classify p), some p.seq.toNat, p.payload.length, some p.ackNum.toNat⟩

/-! ### One step -/

/-- Where the schedule's head decodes to an operation, the step is that operation on the state without the head.
The schedule is the model's (entry 1). -/
def Obligations.StepRunsTheDecodedOperation : Prop :=
  ∀ (s : State) (slot : Slot) (rest : List Slot) (i : Instr), s.env.sched = slot :: rest →
    decode s.cfg.payloadMax slot = .ok i → step s = exec i { s with env := { s.env with sched := rest } }

/-- With nothing queued nothing happens (R289; entry 2); a row's code runs whatever its operands are, and a code that no
row of R104 has is refused by name. A datagram that is no frame operation is polled all the same (R100; entry 7): an engine
that polls records a short, a long or a damaged one as corrupt and discards a valid one of a reserved type behind the
record of its poll (R198, R232, R242); an engine that does not poll leaves it alone. -/
def Obligations.StepWithoutAnOperation : Prop :=
  ∀ (s : State) (rest : List Slot),
    let s1 := { s with env := { s.env with sched := rest } }
    let rcvPolling := s.rcv.phase = .listen ∨ s.rcv.phase = .awaitAck ∨ s.rcv.phase = .established ∨
      s.rcv.phase = .lastAck
    let sndPolling := s.snd.phase = .synSent ∨ s.snd.phase = .dataTransfer ∨ s.snd.phase = .finWait
    let reserved := fun (b : Bytes) => 32 ≤ b.length ∧ b.length ≤ 32 + s.cfg.payloadMax ∧
      byteAt b 22 ≠ 0#8 ∧ (byteAt b 20 ≠ 0#8 ∨ byteAt b 21 ≠ 0#8)
    (s.env.sched = [] → step s = .next s) ∧
    (∀ c o, s.env.sched = .event c o :: rest →
      (∀ i, opOfCode c o = some i → step s = exec i s1) ∧
      (opOfCode c o = none → step s = .refused (.undefinedCode c))) ∧
    (∀ b, s.env.sched = .frame .sr b :: rest →
      (b.length < 32 → rcvPolling → step s = exec (.rRxCorrupt b .short) s1) ∧
      (32 + s.cfg.payloadMax < b.length → rcvPolling → step s = exec (.rRxCorrupt b .long) s1) ∧
      (reserved b → rcvPolling →
        (∀ c, decodeFrame s.cfg.payloadMax b = .error c → step s = exec (.rRxCorrupt b c) s1) ∧
        (∀ p, decodeFrame s.cfg.payloadMax b = .ok p → step s = .next { s1 with
          logR := s.logR ++ [⟨.rcv, s.now, some .rsv, some p.seq.toNat, p.payload.length,
            some p.ackNum.toNat⟩] })) ∧
      (b.length < 32 ∨ 32 + s.cfg.payloadMax < b.length ∨ reserved b → ¬ rcvPolling →
        step s = .next s1)) ∧
    (∀ b, s.env.sched = .frame .rs b :: rest →
      (b.length < 32 → sndPolling → step s = exec (.sRxCorrupt b .short) s1) ∧
      (32 + s.cfg.payloadMax < b.length → sndPolling → step s = exec (.sRxCorrupt b .long) s1) ∧
      (reserved b → sndPolling →
        (∀ c, decodeFrame s.cfg.payloadMax b = .error c → step s = exec (.sRxCorrupt b c) s1) ∧
        (∀ p, decodeFrame s.cfg.payloadMax b = .ok p → step s = .next { s1 with
          logS := s.logS ++ [⟨.rcv, s.now, some .rsv, some p.seq.toNat, p.payload.length,
            some p.ackNum.toNat⟩] })) ∧
      (b.length < 32 ∨ 32 + s.cfg.payloadMax < b.length ∨ reserved b → ¬ sndPolling →
        step s = .next s1))

/-! ### Frames handed to an engine (entry 7) -/

/-- R98, R231: a valid frame handed to the receiver is logged and runs the rule that the phase and the type
select; a type without an entry is only logged, and a receiver that does not poll leaves the frame alone. -/
def Obligations.ReceiverRunsTheFramesRule : Prop :=
  ∀ (w : WireFrame) (p : Packet) (s : State), decodeFrame s.cfg.payloadMax (wireBytes w) = .ok p →
    let s1 := { s with logR := s.logR ++
      [⟨.rcv, s.now, some (classify p), some p.seq.toNat, p.payload.length, some p.ackNum.toNat⟩] }
    (wireType w = .syn → classify p = .syn ∧
      (s.rcv.phase = .listen →
        ∃ t, exec (.rRxSyn p) s1 = .next t ∧ exec (.syn .sr w) s = .next t) ∧
      (s.rcv.phase = .awaitAck ∨ s.rcv.phase = .established ∨ s.rcv.phase = .lastAck →
        exec (.syn .sr w) s = .next s1)) ∧
    (wireType w = .synack → classify p = .synack ∧
      (s.rcv.phase = .listen ∨ s.rcv.phase = .awaitAck ∨ s.rcv.phase = .established ∨
        s.rcv.phase = .lastAck → exec (.synack .sr w) s = .next s1)) ∧
    (wireType w = .ack → classify p = .ack ∧
      (s.rcv.phase = .awaitAck →
        ∃ t, exec (.rRxHsack p) s1 = .next t ∧ exec (.ack .sr w) s = .next t) ∧
      (s.rcv.phase = .lastAck →
        ∃ t, exec (.rRxLastack p) s1 = .next t ∧ exec (.ack .sr w) s = .next t) ∧
      (s.rcv.phase = .listen ∨ s.rcv.phase = .established → exec (.ack .sr w) s = .next s1)) ∧
    (wireType w = .data → classify p = .data ∧
      (s.rcv.phase = .established →
        ∃ t, exec (.rRxData p) s1 = .next t ∧ exec (.data .sr w) s = .next t) ∧
      (s.rcv.phase = .listen ∨ s.rcv.phase = .awaitAck ∨ s.rcv.phase = .lastAck →
        exec (.data .sr w) s = .next s1)) ∧
    (wireType w = .fin → classify p = .fin ∧
      (s.rcv.phase = .established →
        ∃ t, exec (.rRxFin p) s1 = .next t ∧ exec (.fin .sr w) s = .next t) ∧
      (s.rcv.phase = .listen ∨ s.rcv.phase = .awaitAck ∨ s.rcv.phase = .lastAck →
        exec (.fin .sr w) s = .next s1)) ∧
    (s.rcv.phase = .synRcvd ∨ s.rcv.phase = .finRcvd →
      exec (.syn .sr w) s = .next s ∧ exec (.synack .sr w) s = .next s ∧
        exec (.ack .sr w) s = .next s ∧ exec (.data .sr w) s = .next s ∧
        exec (.fin .sr w) s = .next s)

/-- R98, R185: a valid frame handed to the sender is logged and runs the rule that the phase, the type and the
extra condition select; a frame without an entry is only logged, and a sender that does not poll leaves it alone. -/
def Obligations.SenderRunsTheFramesRule : Prop :=
  ∀ (w : WireFrame) (p : Packet) (s : State), decodeFrame s.cfg.payloadMax (wireBytes w) = .ok p →
    let s1 := { s with logS := s.logS ++
      [⟨.rcv, s.now, some (classify p), some p.seq.toNat, p.payload.length, some p.ackNum.toNat⟩] }
    (wireType w = .synack →
      (s.snd.phase = .synSent →
        exec (.synack .rs w) s = .next { s1 with
          snd := { s.snd with rcvNxt := (p.seq.toNat + 1) % 2 ^ 32, phase := .established } }) ∧
      (s.snd.phase = .dataTransfer ∨ s.snd.phase = .finWait →
        exec (.synack .rs w) s = .next s1)) ∧
    (wireType w = .ack →
      (s.snd.phase = .dataTransfer →
        ∃ t, exec (.sRxAck p) s1 = .next t ∧ exec (.ack .rs w) s = .next t) ∧
      (s.snd.phase = .finWait → s.snd.finAcked = false →
        p.ackNum.toNat = s.snd.base + s.cfg.srcLen + 1 →
        exec (.ack .rs w) s = .next { s1 with snd := { s.snd with finAcked := true } }) ∧
      (s.snd.phase = .finWait →
        (s.snd.finAcked = true ∨ p.ackNum.toNat ≠ s.snd.base + s.cfg.srcLen + 1) →
        exec (.ack .rs w) s = .next s1) ∧
      (s.snd.phase = .synSent → exec (.ack .rs w) s = .next s1)) ∧
    (wireType w = .fin →
      (s.snd.phase = .finWait → s.snd.finAcked = true →
        ∃ t, exec (.sRxPeerfin p) s1 = .next t ∧ exec (.fin .rs w) s = .next t) ∧
      (s.snd.phase = .synSent ∨ s.snd.phase = .dataTransfer ∨
          s.snd.phase = .finWait ∧ s.snd.finAcked = false →
        exec (.fin .rs w) s = .next s1)) ∧
    (s.snd.phase = .synSent ∨ s.snd.phase = .dataTransfer ∨ s.snd.phase = .finWait →
      (wireType w = .syn → exec (.syn .rs w) s = .next s1) ∧
        (wireType w = .data → exec (.data .rs w) s = .next s1)) ∧
    (s.snd.phase = .idle ∨ s.snd.phase = .established ∨ s.snd.phase = .closed →
      exec (.syn .rs w) s = .next s ∧ exec (.synack .rs w) s = .next s ∧
        exec (.ack .rs w) s = .next s ∧ exec (.data .rs w) s = .next s ∧
        exec (.fin .rs w) s = .next s)

/-! ### The injector -/

/-- R150: `PLD.SUBMIT` runs the trials for a data frame or under scope `ALL`, and bypasses them otherwise. -/
def Obligations.SubmitChoosesByScope : Prop :=
  ∀ (f : Bytes) (ty : FrameType) (dest : Addr) (retx : Bool) (s : State),
    (s.cfg.pldScope = .all ∨ ty = .data →
      ∃ t, exec (.pldProcess f dest retx) s = .next t ∧ exec (.pldSubmit f ty dest retx) s = .next t) ∧
    (s.cfg.pldScope = .dataOnly → ty ≠ .data →
      ∃ t, exec (.pldBypass f dest) s = .next t ∧ exec (.pldSubmit f ty dest retx) s = .next t)

/-- R152: `PLD.PROCESS` takes its draws in order, stops at the first trial that succeeds, runs that one branch, and
then, after every branch that sends or schedules, ticks the hold. The reorder trial takes a draw only while
nothing is held. Where draws come from is the model's (entry 13). -/
def Obligations.ProcessRunsOneBranch : Prop :=
  ∀ (f : Bytes) (dest : Addr) (retx : Bool) (s : State),
    let after := fun (n : Nat) => { s with
      env := { s.env with draws := s.env.draws.drop n, drawIdx := s.env.drawIdx + n } }
    let runs := fun (ops : List Instr) (n : Nat) =>
      ∃ t, execAll ops (after n) = .next t ∧ exec (.pldProcess f dest retx) s = .next t
    if drawAt 0 s < s.cfg.pDrop then runs [.pldDrop f retx] 1
    else if drawAt 1 s < s.cfg.pDuplicate then runs [.pldDup f dest retx, .pldTickheld] 2
    else if drawAt 2 s < s.cfg.pCorrupt then runs [.pldCorrupt f dest retx, .pldTickheld] 3
    else if s.pld.held = none then
      if drawAt 3 s < s.cfg.pReorder then runs [.pldHold f dest retx] 4
      else if drawAt 4 s < s.cfg.pDelay then runs [.pldDelay f dest retx, .pldTickheld] 5
      else runs [.pldPass f dest retx, .pldTickheld] 5
    else if drawAt 3 s < s.cfg.pDelay then runs [.pldDelay f dest retx, .pldTickheld] 4
    else runs [.pldPass f dest retx, .pldTickheld] 4

/-- R153, R154, R155: a dropped submission is not sent; a duplicated frame enters the channel twice, a corrupted one
once with byte 6 flipped (a string of fewer than 7 bytes, which no sender builds: entry 35), while the channel is open;
each is counted and logged as submitted, and nothing else changes. -/
def Obligations.DropDuplicateAndCorruptAct : Prop :=
  ∀ (f : Bytes) (dest : Addr) (retx : Bool) (s : State),
    exec (.pldDrop f retx) s = .next { s with
      cntS := { s.cntS with dropped := s.cntS.dropped + 1 }
      logS := s.logS ++ [frameRec (.drop retx) s.now f] } ∧
    exec (.pldDup f dest retx) s = .next { s with
      chanSR := if s.snd.chanOpen then s.chanSR ++ [f, f] else s.chanSR
      cntS := { s.cntS with duplicated := s.cntS.duplicated + 1 }
      logS := s.logS ++ [frameRec (.dup retx) s.now f] } ∧
    exec (.pldCorrupt f dest retx) s = .next { s with
      chanSR := if s.snd.chanOpen then
        s.chanSR ++ [flip6 f] else s.chanSR
      cntS := { s.cntS with corrupted := s.cntS.corrupted + 1 }
      logS := s.logS ++ [frameRec (.corr retx) s.now f] } ∧
    (7 ≤ f.length → flip6 f = f.set 6 ((f[6]?).getD 0#8 ^^^ 0x65#8))

/-- R156: with nothing held, `PLD.HOLD` stashes the frame with its destination and mark, starts the wait at 0,
counts and logs, and sends nothing. -/
def Obligations.HoldStashesTheFrame : Prop :=
  ∀ (f : Bytes) (dest : Addr) (retx : Bool) (s : State), s.pld.held = none →
    exec (.pldHold f dest retx) s = .next { s with
      pld := { s.pld with held := some ⟨f, dest, retx⟩, wait := 0 }
      cntS := { s.cntS with reordered := s.cntS.reordered + 1 }
      logS := s.logS ++ [frameRec (.rord retx) s.now f] }

/-- R157: `PLD.DELAY` adds one pending send, due after a fresh delay between 0 and `cfg.delay_max_delay` where
that bound is not negative; it counts, logs and sends nothing. Where draws come from is the model's (entry 13). -/
def Obligations.DelaySchedulesASend : Prop :=
  ∀ (f : Bytes) (dest : Addr) (retx : Bool) (s : State),
    ∃ d, 0 ≤ d ∧ (0 ≤ s.cfg.delayMaxDelay → d ≤ s.cfg.delayMaxDelay) ∧
      exec (.pldDelay f dest retx) s = .next { s with
        pld := { s.pld with pending := s.pld.pending ++ [⟨f, dest, s.now + d⟩] }
        cntS := { s.cntS with delayed := s.cntS.delayed + 1 }
        logS := s.logS ++ [frameRec (.dely retx) s.now f]
        env := { s.env with delays := s.env.delays.drop 1, delayIdx := s.env.delayIdx + 1 } }

/-- R158, R161, R162: `PLD.PASS` and `PLD.BYPASS` transmit the frame and log it, with and without the mark;
`XMIT` puts a frame behind everything in `chan.SR` while the channel is open and otherwise does nothing. -/
def Obligations.PassAndBypassTransmit : Prop :=
  ∀ (f : Bytes) (dest : Addr) (retx : Bool) (s : State),
    let sr := if s.snd.chanOpen then s.chanSR ++ [f] else s.chanSR
    exec (.xmit f dest) s = .next { s with chanSR := sr } ∧
    exec (.pldPass f dest retx) s = .next { s with
      chanSR := sr, logS := s.logS ++ [frameRec (.sent retx) s.now f] } ∧
    exec (.pldBypass f dest) s = .next { s with
      chanSR := sr, logS := s.logS ++ [frameRec .snd s.now f] }

/-- R159: `PLD.TICKHELD` raises the wait of a held frame, and once it reaches `cfg.reorder_max_delay` sends the
held frame behind everything in the channel, logs it with its own mark, and clears the hold. -/
def Obligations.TickReleasesTheHeldFrame : Prop :=
  ∀ s : State,
    (s.pld.held = none → exec .pldTickheld s = .next s) ∧
    (∀ h, s.pld.held = some h → s.pld.wait + 1 < s.cfg.reorderMaxDelay →
      exec .pldTickheld s = .next { s with pld := { s.pld with wait := s.pld.wait + 1 } }) ∧
    (∀ h, s.pld.held = some h → s.cfg.reorderMaxDelay ≤ s.pld.wait + 1 →
      exec .pldTickheld s = .next { s with
        chanSR := if s.snd.chanOpen then s.chanSR ++ [h.frame] else s.chanSR
        logS := s.logS ++ [frameRec (.flush h.retx) s.now h.frame]
        pld := { s.pld with held := none, wait := 0 } })

/-- R159, R310: `k` ticks release a frame held with wait 0 exactly when `k` reaches `cfg.reorder_max_delay`, and
before that only the wait moves. -/
def Obligations.HeldFrameWaitsForItsTicks : Prop :=
  ∀ (k : Nat) (s : State) (h : Held), s.pld.held = some h → s.pld.wait = 0 →
    1 ≤ s.cfg.reorderMaxDelay →
    (k < s.cfg.reorderMaxDelay →
      execAll (List.replicate k .pldTickheld) s = .next { s with pld := { s.pld with wait := k } }) ∧
    (s.cfg.reorderMaxDelay ≤ k → s.snd.chanOpen = true →
      ∃ t, execAll (List.replicate k .pldTickheld) s = .next t ∧ t.pld.held = none ∧
        t.pld.wait = 0 ∧ t.chanSR = s.chanSR ++ [h.frame])

/-- R160, R263: a due pending send is removed; while the channel is open its frame joins `chan.SR`, afterwards
only a `DLYFAIL` record is written. -/
def Obligations.DelayedSendFires : Prop :=
  ∀ (m : Pending) (s : State), m ∈ s.pld.pending → m.due ≤ s.now →
    (s.snd.chanOpen = true →
      exec (.dlyFire m) s = .next { s with
        pld := { s.pld with pending := s.pld.pending.erase m }
        chanSR := s.chanSR ++ [m.frame] }) ∧
    (s.snd.chanOpen = false →
      exec (.dlyFire m) s = .next { s with
        pld := { s.pld with pending := s.pld.pending.erase m }
        logS := s.logS ++ [frameRec .dlyfail s.now m.frame] })

/-- R151: every draw is in its range, whatever the environment queued, and a queued value of the range is the value
drawn, for `Draw01` and for `DrawDelay`; a trial with probability 0 never succeeds and one with probability 1 always does.
The queue and the free values behind it are the model's (entry 13). -/
def Obligations.DrawsStayInRange : Prop :=
  ∀ (n : Nat) (s : State),
    0 ≤ drawAt n s ∧ drawAt n s < 1 ∧ trial (drawAt n s) 0 = false ∧ trial (drawAt n s) 1 = true ∧
      (∀ m, 0 ≤ m → 0 ≤ delayAt m s ∧ delayAt m s ≤ m) ∧
      (∀ m d, s.env.delays[0]? = some d → 0 ≤ d → d ≤ m → delayAt m s = d) ∧
      (∀ u, s.env.draws[n]? = some u → 0 ≤ u → u < 1 → drawAt n s = u)

/-- R166: with every probability 0 each submission passes unchanged; with `p_drop = 1` it is dropped; with
`p_duplicate = 1` it is sent twice; with `p_corrupt = 1` it is sent corrupt; with `p_reorder = 1` and nothing
held it is held; with `p_delay = 1` it becomes a pending send (the ones before each being 0). -/
def Obligations.EdgeProbabilitiesFixTheBranch : Prop :=
  ∀ (f : Bytes) (dest : Addr) (retx : Bool) (s : State),
    ∃ t, exec (.pldProcess f dest retx) s = .next t ∧
      (s.cfg.pDrop = 1 → t.cntS.dropped = s.cntS.dropped + 1 ∧ t.chanSR = s.chanSR ∧ t.pld = s.pld) ∧
      (s.cfg.pDrop = 0 → s.cfg.pDuplicate = 1 → s.pld.held = none → s.snd.chanOpen = true →
        t.chanSR = s.chanSR ++ [f, f] ∧ t.pld = s.pld) ∧
      (s.cfg.pDrop = 0 → s.cfg.pDuplicate = 0 → s.cfg.pCorrupt = 1 → s.pld.held = none →
        s.snd.chanOpen = true → t.chanSR = s.chanSR ++ [flip6 f] ∧ t.pld = s.pld) ∧
      (s.cfg.pDrop = 0 → s.cfg.pDuplicate = 0 → s.cfg.pCorrupt = 0 → s.cfg.pReorder = 1 →
        s.pld.held = none → t.pld.held = some ⟨f, dest, retx⟩ ∧ t.chanSR = s.chanSR) ∧
      (s.cfg.pDrop = 0 → s.cfg.pDuplicate = 0 → s.cfg.pCorrupt = 0 → s.cfg.pReorder = 0 →
        s.cfg.pDelay = 1 → s.pld.held = none →
        t.chanSR = s.chanSR ∧ t.pld.pending.length = s.pld.pending.length + 1) ∧
      (s.cfg.pDrop = 0 → s.cfg.pDuplicate = 0 → s.cfg.pCorrupt = 0 → s.cfg.pReorder = 0 →
        s.cfg.pDelay = 0 → s.pld.held = none → s.snd.chanOpen = true →
        t.chanSR = s.chanSR ++ [f] ∧ t.pld = s.pld ∧ t.cntS = s.cntS)

/-- The frame of `PLD.SUBMIT`, and so of `PLD.PROCESS`: it changes only the injector's registers, the five
injector counters, `chan.SR` by appending, the sender's log by appending one record or two, and the draws. -/
def Obligations.SubmitTouchesOnlyTheInjector : Prop :=
  ∀ (f : Bytes) (ty : FrameType) (dest : Addr) (retx : Bool) (s t : State),
    exec (.pldSubmit f ty dest retx) s = .next t →
    t.snd = s.snd ∧ t.rcv = s.rcv ∧ t.cfg = s.cfg ∧ t.cntR = s.cntR ∧ t.chanRS = s.chanRS ∧
      t.src = s.src ∧ t.sink = s.sink ∧ t.logR = s.logR ∧ t.sumS = s.sumS ∧ t.sumR = s.sumR ∧
      t.now = s.now ∧ t.result = s.result ∧ t.env.sched = s.env.sched ∧
      t.cntS.segmentsSent = s.cntS.segmentsSent ∧ t.cntS.retxTimeout = s.cntS.retxTimeout ∧
      t.cntS.retxFast = s.cntS.retxFast ∧ t.cntS.dupAcks = s.cntS.dupAcks ∧
      (∃ l, t.chanSR = s.chanSR ++ l ∧ (s.snd.chanOpen = false → l = [])) ∧
      (∃ l, t.logS = s.logS ++ l ∧ 1 ≤ l.length ∧ l.length ≤ 2)

/-! ### The sender -/

/-- R184, R291: in `IDLE` under a legal configuration `CMD.START` runs `S.OPEN`: the registers of R184 are
written, the `SYN` is submitted, and the phase becomes `SYN_SENT`. `S.OPEN` issued by itself is the same (entry 28). -/
def Obligations.OpenSubmitsTheSyn : Prop :=
  ∀ s : State, s.snd.phase = .idle → senderConfigLegal s.cfg = true →
    let f := (encodeFrame s.cfg.payloadMax ⟨s.cfg.sLocal, s.cfg.sPeer, BitVec.ofNat 32 s.cfg.isnS, 0#32,
      BitVec.ofNat 32 s.cfg.window, true, false, false, 0#64, []⟩).1
    let s1 := { s with
      snd := { s.snd with
        base := s.cfg.isnS + 1, una := s.cfg.isnS + 1, nxt := s.cfg.isnS + 1
        max := s.cfg.isnS + 1, rcvNxt := 0, ertt := Config.initErtt, drtt := Config.initDrtt
        timed := none, cycleEnd := s.cfg.isnS + 1, outq := [], dupack := [], finAcked := false
        chanOpen := true }
      pld := { s.pld with held := none, wait := 0 }
      cntS := ⟨0, 0, 0, 0, 0, 0, 0, 0, 0⟩ }
    ∃ t, exec (.pldSubmit f .syn s.cfg.sPeer false) s1 = .next t ∧
      exec .sOpen s = .next { t with snd := { s1.snd with phase := .synSent } } ∧
      exec .cmdStart s = .next { t with snd := { s1.snd with phase := .synSent } }

/-- R306, R264, R291: the checks of `CMD.START` are the table of R306; where one fails in `IDLE` the sticky flag is
set and nothing else changes, and outside `IDLE` the command is ignored. -/
def Obligations.StartRefusesAnIllegalConfiguration : Prop :=
  ∀ s : State,
    (senderConfigLegal s.cfg = true ↔
      (1 ≤ s.cfg.mss ∧ s.cfg.mss ≤ s.cfg.payloadMax) ∧ (s.cfg.mss ≤ s.cfg.window ∧ s.cfg.window < 2 ^ 32) ∧
        0 ≤ s.cfg.gamma ∧
        ((0 ≤ s.cfg.pDrop ∧ s.cfg.pDrop ≤ 1) ∧ (0 ≤ s.cfg.pDuplicate ∧ s.cfg.pDuplicate ≤ 1) ∧
          (0 ≤ s.cfg.pCorrupt ∧ s.cfg.pCorrupt ≤ 1) ∧ (0 ≤ s.cfg.pReorder ∧ s.cfg.pReorder ≤ 1) ∧
          (0 ≤ s.cfg.pDelay ∧ s.cfg.pDelay ≤ 1)) ∧
        1 ≤ s.cfg.reorderMaxDelay ∧ 0 ≤ s.cfg.delayMaxDelay ∧
        s.cfg.isnS + s.cfg.srcLen + 2 < 2 ^ 32 ∧
        (s.cfg.pldScope = .dataOnly ∨ s.cfg.pldScope = .all)) ∧
    (s.snd.phase = .idle → senderConfigLegal s.cfg = false →
      exec .cmdStart s = .next { s with snd := { s.snd with cfgErr := true } }) ∧
    (s.snd.phase ≠ .idle → exec .cmdStart s = .next s)

/-- R187, R188: the peer's `SYNACK` sets the acknowledge number and the phase `ESTABLISHED`; `S.HSACK` then submits
the handshake `ACK` and enters `DATA_TRANSFER`. -/
def Obligations.SynackThenHandshakeAck : Prop :=
  ∀ (p : Packet) (s : State),
    (s.snd.phase = .synSent → classify p = .synack →
      exec (.sRxSynack p) s = .next { s with
        snd := { s.snd with rcvNxt := (p.seq.toNat + 1) % 2 ^ 32, phase := .established } }) ∧
    (s.snd.phase = .established →
      let f := (encodeFrame s.cfg.payloadMax ⟨s.cfg.sLocal, s.cfg.sPeer, BitVec.ofNat 32 s.snd.base,
        BitVec.ofNat 32 s.snd.rcvNxt, BitVec.ofNat 32 s.cfg.window, false, true, false, 0#64, []⟩).1
      ∃ t, exec (.pldSubmit f .ack s.cfg.sPeer false) s = .next t ∧
        exec .sHsack s = .next { t with snd := { s.snd with phase := .dataTransfer } })

/-- R185: `S.RX` in a polling phase removes the datagram the channel delivers (the oldest under FIFO_RELIABLE,
the channel's choice otherwise, which is an operand, entry 12) and, where it decodes, logs it and runs the rule of
the table. -/
def Obligations.SenderPollRunsTheTableRule : Prop :=
  ∀ (pick i : Nat) (b : Bytes) (s : State),
    (Config.channel = .fifoReliable → i = 0) → (Config.channel = .unorderedLossy → i = pick) →
    s.chanRS[i]? = some b →
    let s0 := { s with chanRS := s.chanRS.eraseIdx i }
    (∀ c, decodeFrame s.cfg.payloadMax b = .error c →
      (s.snd.phase = .synSent ∨ s.snd.phase = .dataTransfer ∨ s.snd.phase = .finWait) →
      exec (.sRx pick) s = .next { s0 with
        logS := s.logS ++ [⟨.rcvbad c, s.now, none, none, b.length, none⟩] }) ∧
    (∀ p, decodeFrame s.cfg.payloadMax b = .ok p →
      let s1 := { s0 with logS := s.logS ++
        [⟨.rcv, s.now, some (classify p), some p.seq.toNat, p.payload.length, some p.ackNum.toNat⟩] }
      (s.snd.phase = .synSent →
        exec (.sRx pick) s = .next (if classify p = .synack then
          { s1 with snd := { s.snd with
              rcvNxt := (p.seq.toNat + 1) % 2 ^ 32, phase := .established } }
          else s1)) ∧
      (s.snd.phase = .dataTransfer →
        if classify p = .ack then
          ∃ t, exec (.sRxAck p) s1 = .next t ∧ exec (.sRx pick) s = .next t
        else exec (.sRx pick) s = .next s1) ∧
      (s.snd.phase = .finWait →
        if classify p = .ack ∧ s.snd.finAcked = false ∧
            p.ackNum.toNat = s.snd.base + s.cfg.srcLen + 1 then
          exec (.sRx pick) s = .next { s1 with snd := { s.snd with finAcked := true } }
        else if classify p = .fin ∧ s.snd.finAcked = true then
          ∃ t, exec (.sRxPeerfin p) s1 = .next t ∧ exec (.sRx pick) s = .next t
        else exec (.sRx pick) s = .next s1)) ∧
    (s.snd.phase = .idle ∨ s.snd.phase = .established ∨ s.snd.phase = .closed →
      exec (.sRx pick) s = .next s)

/-- R186, R198, R232, R242, R262: a damaged datagram leaves one log record, and at the receiver outside `LISTEN` one
count; a discarded packet leaves nothing beyond the record its poll wrote. -/
def Obligations.CorruptOrUnexpectedIsDropped : Prop :=
  ∀ (b : Bytes) (c : Cause) (p : Packet) (s : State),
    exec (.sRxCorrupt b c) s = .next { s with
      logS := s.logS ++ [⟨.rcvbad c, s.now, none, none, b.length, none⟩] } ∧
    exec (.rRxCorrupt b c) s = .next { s with
      logR := s.logR ++ [⟨.rcvbad c, s.now, none, none, b.length, none⟩]
      cntR := { s.cntR with segmentsCorrupt :=
        if s.rcv.phase = .listen then s.cntR.segmentsCorrupt else s.cntR.segmentsCorrupt + 1 } } ∧
    exec (.sRxDiscard p) s = .next s ∧ exec (.rRxDiscard p) s = .next s

/-- R189, R202: `S.SEND` submits the segment at the cursor, counts it, records it as outstanding, moves the cursor
and the high-water mark past it, and arms the estimator where no measurement runs. -/
def Obligations.SendTransmitsTheNextSegment : Prop :=
  ∀ s : State, s.snd.phase = .dataTransfer → s.snd.base ≤ s.snd.nxt →
    s.snd.nxt - s.snd.base < s.cfg.srcLen →
    let q := s.snd.nxt
    let n := min s.cfg.mss (s.cfg.srcLen - (q - s.snd.base))
    (q - s.snd.una) + n ≤ s.cfg.window →
    let retx := decide (q < s.snd.max)
    let f := (encodeFrame s.cfg.payloadMax ⟨s.cfg.sLocal, s.cfg.sPeer, BitVec.ofNat 32 q,
      BitVec.ofNat 32 s.snd.rcvNxt, BitVec.ofNat 32 s.cfg.window, false, false, false, 0#64,
      (List.range n).map fun k => memRead s.src (q - s.snd.base + k)⟩).1
    let outq := s.snd.outq ++ [⟨q, n, s.now, retx⟩]
    ∃ t, exec (.pldSubmit f .data s.cfg.sPeer retx) { s with
        cntS := { s.cntS with
          segmentsSent := s.cntS.segmentsSent + 1
          retxTimeout := s.cntS.retxTimeout + if retx then 1 else 0 } } = .next t ∧
      exec .sSend s = .next { t with
        snd := { s.snd with
          outq := outq
          nxt := q + n
          max := if s.snd.max ≤ q + n then q + n else s.snd.max
          timed := match s.snd.timed, outq.head? with
            | none, some h => some ⟨h.seq + h.len, h.tSent, !h.retx, false⟩
            | tm, _ => tm
          cycleEnd := if s.snd.timed = none then q + n else s.snd.cycleEnd } }

/-- R190: in `DATA_TRANSFER` an `ACK` above `s.max` is discarded, one above `s.una` is forward, any other is stale. -/
def Obligations.AckIsForwardOrStale : Prop :=
  ∀ (p : Packet) (s : State), s.snd.phase = .dataTransfer → classify p = .ack →
    let a := p.ackNum.toNat
    (s.snd.max < a → exec (.sRxAck p) s = .next s) ∧
    (a ≤ s.snd.max → s.snd.una < a →
      ∃ t, exec (.sAckFwd a) s = .next t ∧ exec (.sRxAck p) s = .next t) ∧
    (a ≤ s.snd.max → a ≤ s.snd.una →
      ∃ t, exec (.sAckStale a) s = .next t ∧ exec (.sRxAck p) s = .next t)

/-- R191, R200, R203: a forward `ACK` moves `s.una`, pulls the cursor up to it, drops the wholly acknowledged
segments, and feeds the estimator: one sample per cycle, from a valid measurement whose segment is acknowledged,
the deviation using the updated estimate; at the end of the cycle, or with no measurement, the next one is armed
on the oldest outstanding segment. That a cursor beyond a number inside a segment stays is the model's reading of R191
(entry 34). -/
def Obligations.ForwardAckSlidesTheWindow : Prop :=
  ∀ (a : Nat) (s : State), s.snd.una < a → a ≤ s.snd.max →
    let nxt := if s.snd.nxt < a then a else s.snd.nxt
    let outq := s.snd.outq.filter fun e => decide (a < e.seq + e.len)
    ∃ e d tm c,
      exec (.sAckFwd a) s = .next { s with
        snd := { s.snd with
          una := a, nxt := nxt, outq := outq, ertt := e, drtt := d, timed := tm, cycleEnd := c } } ∧
      (match s.snd.timed with
        | none => e = s.snd.ertt ∧ d = s.snd.drtt
        | some t =>
          if t.done = false ∧ t.last ≤ a ∧ t.valid = true then
            e = 7 / 8 * s.snd.ertt + 1 / 8 * (s.now - t.t0) ∧
              d = 3 / 4 * s.snd.drtt + 1 / 4 * |s.now - t.t0 - e|
          else e = s.snd.ertt ∧ d = s.snd.drtt) ∧
      (match s.snd.timed with
        | none =>
          match outq with
          | [] => tm = none ∧ c = s.snd.cycleEnd
          | h :: _ => tm = some ⟨h.seq + h.len, h.tSent, !h.retx, false⟩ ∧ c = nxt
        | some t =>
          if s.snd.cycleEnd ≤ a then
            match outq with
            | [] => tm = none ∧ c = s.snd.cycleEnd
            | h :: _ => tm = some ⟨h.seq + h.len, h.tSent, !h.retx, false⟩ ∧ c = nxt
          else
            tm = some { t with done := t.done || decide (t.last ≤ a) } ∧ c = s.snd.cycleEnd)

/-- R192: a stale `ACK` is counted; the third for one number resets that number's count and starts a fast
retransmission, and an earlier one only raises the count. -/
def Obligations.ThirdStaleAckRetransmits : Prop :=
  ∀ (a : Nat) (s : State), a ≤ s.snd.una →
    let n := countGet s.snd.dupack a + 1
    let s1 := { s with cntS := { s.cntS with dupAcks := s.cntS.dupAcks + 1 } }
    (n < 3 → exec (.sAckStale a) s = .next { s1 with
      snd := { s.snd with dupack := countSet s.snd.dupack a n } }) ∧
    (3 ≤ n → ∃ t, exec (.sFastretx a) { s1 with
        snd := { s.snd with dupack := countSet s.snd.dupack a 0 } } = .next t ∧
      exec (.sAckStale a) s = .next t) ∧
    (countGet (countSet s.snd.dupack a n) a = n ∧ countGet (countSet s.snd.dupack a 0) a = 0 ∧
      ∀ b, b ≠ a → countGet (countSet s.snd.dupack a n) b = countGet s.snd.dupack b ∧
        countGet (countSet s.snd.dupack a 0) b = countGet s.snd.dupack b)

/-- R193, R204: the fast retransmission submits exactly the segment at `a`, counts it, stamps and marks its entry,
and invalidates a pending measurement that covers it; where `a` is no byte sent before, nothing happens. -/
def Obligations.FastRetransmitResendsOneSegment : Prop :=
  ∀ (a : Nat) (s : State),
    (s.snd.base ≤ a → a < s.snd.base + s.cfg.srcLen → a < s.snd.max →
      let n := min s.cfg.mss (s.cfg.srcLen - (a - s.snd.base))
      let f := (encodeFrame s.cfg.payloadMax ⟨s.cfg.sLocal, s.cfg.sPeer, BitVec.ofNat 32 a,
        BitVec.ofNat 32 s.snd.rcvNxt, BitVec.ofNat 32 s.cfg.window, false, false, false, 0#64,
        (List.range n).map fun k => memRead s.src (a - s.snd.base + k)⟩).1
      ∃ t, exec (.pldSubmit f .data s.cfg.sPeer true) { s with
          cntS := { s.cntS with
            segmentsSent := s.cntS.segmentsSent + 1
            retxFast := s.cntS.retxFast + 1 } } = .next t ∧
        exec (.sFastretx a) s = .next { t with
          snd := { s.snd with
            outq := s.snd.outq.map fun e =>
              if e.seq = a then ⟨e.seq, e.len, s.now, true⟩ else e
            timed := s.snd.timed.map fun m =>
              if m.done = false ∧ a < m.last then { m with valid := false } else m } }) ∧
    (a < s.snd.base ∨ s.snd.base + s.cfg.srcLen ≤ a ∨ s.snd.max ≤ a →
      exec (.sFastretx a) s = .next s)

/-- R194, R201, R276: at or after the deadline of the oldest outstanding segment, `S.TIMEOUT` logs, pulls the cursor
back to the last acknowledged byte, empties the queue and abandons the measurement; nothing is sent. -/
def Obligations.TimeoutPullsTheCursorBack : Prop :=
  ∀ (s : State) (h : OutSeg) (q : List OutSeg), s.snd.phase = .dataTransfer →
    s.snd.outq = h :: q →
    h.tSent + min (max (s.snd.ertt + s.cfg.gamma * s.snd.drtt) Config.minTimeout) Config.maxTimeout
      ≤ s.now →
    exec .sTimeout s = .next { s with
      snd := { s.snd with nxt := s.snd.una, outq := [], timed := none }
      logS := s.logS ++ [⟨.timeout, s.now, some .data, some s.snd.una, 0, some s.snd.rcvNxt⟩] }

/-- R195, R196, R197, R286: once everything is acknowledged `S.FIN` submits the `FIN` and enters `FIN_WAIT`; its `ACK`
sets the sub-state; the peer's `FIN` is answered by the final `ACK`, the counters are emitted, and the channel and
the phase close. -/
def Obligations.TeardownClosesTheSender : Prop :=
  ∀ (p : Packet) (s : State),
    let last := s.snd.base + s.cfg.srcLen
    (s.snd.phase = .dataTransfer → s.snd.una = last →
      let f := (encodeFrame s.cfg.payloadMax ⟨s.cfg.sLocal, s.cfg.sPeer, BitVec.ofNat 32 last,
        BitVec.ofNat 32 s.snd.rcvNxt, BitVec.ofNat 32 s.cfg.window, false, false, true, 0#64, []⟩).1
      ∃ t, exec (.pldSubmit f .fin s.cfg.sPeer false) s = .next t ∧
        exec .sFin s = .next { t with
          snd := { s.snd with finAcked := false, phase := .finWait } }) ∧
    (s.snd.phase = .finWait → s.snd.finAcked = false → classify p = .ack →
      p.ackNum.toNat = last + 1 →
      exec (.sRxFinack p) s = .next { s with snd := { s.snd with finAcked := true } }) ∧
    (s.snd.phase = .finWait → s.snd.finAcked = true → classify p = .fin →
      let f := (encodeFrame s.cfg.payloadMax ⟨s.cfg.sLocal, s.cfg.sPeer, BitVec.ofNat 32 (last + 1),
        BitVec.ofNat 32 ((p.seq.toNat + 1) % 2 ^ 32), BitVec.ofNat 32 s.cfg.window, false, true,
        false, 0#64, []⟩).1
      ∃ t, exec (.pldSubmit f .ack s.cfg.sPeer false) s = .next t ∧
        exec (.sRxPeerfin p) s = .next { t with
          sumS := s.sumS ++ [t.cntS]
          snd := { s.snd with chanOpen := false, phase := .closed } })

/-! ### The receiver -/

/-- R231: `R.RX` in a polling phase removes the datagram the channel delivers and, where it decodes, logs it and
runs the rule of the table; a damaged one is R232's. The channel's choice is an operand (entry 12). -/
def Obligations.ReceiverPollRunsTheTableRule : Prop :=
  ∀ (pick i : Nat) (b : Bytes) (s : State),
    (Config.channel = .fifoReliable → i = 0) → (Config.channel = .unorderedLossy → i = pick) →
    s.chanSR[i]? = some b →
    let s0 := { s with chanSR := s.chanSR.eraseIdx i }
    (∀ c, decodeFrame s.cfg.payloadMax b = .error c →
      (s.rcv.phase = .listen ∨ s.rcv.phase = .awaitAck ∨ s.rcv.phase = .established ∨
        s.rcv.phase = .lastAck) →
      ∃ t, exec (.rRxCorrupt b c) s0 = .next t ∧ exec (.rRx pick) s = .next t) ∧
    (∀ p, decodeFrame s.cfg.payloadMax b = .ok p →
      let s1 := { s0 with logR := s.logR ++
        [⟨.rcv, s.now, some (classify p), some p.seq.toNat, p.payload.length, some p.ackNum.toNat⟩] }
      (s.rcv.phase = .listen →
        if classify p = .syn then
          ∃ t, exec (.rRxSyn p) s1 = .next t ∧ exec (.rRx pick) s = .next t
        else exec (.rRx pick) s = .next s1) ∧
      (s.rcv.phase = .awaitAck →
        exec (.rRx pick) s = .next (if classify p = .ack then
          { s1 with rcv := { s.rcv with phase := .established } } else s1)) ∧
      (s.rcv.phase = .established →
        if classify p = .data then
          ∃ t, exec (.rRxData p) s1 = .next t ∧ exec (.rRx pick) s = .next t
        else if classify p = .fin then
          exec (.rRx pick) s = .next { s1 with
            rcv := { s.rcv with sinkOpen := false, finSeq := p.seq.toNat, phase := .finRcvd } }
        else exec (.rRx pick) s = .next s1) ∧
      (s.rcv.phase = .lastAck →
        exec (.rRx pick) s = .next (if classify p = .ack then
          { s1 with sumR := s.sumR ++ [s.cntR], rcv := { s.rcv with phase := .listen } } else s1))) ∧
    (s.rcv.phase = .synRcvd ∨ s.rcv.phase = .finRcvd → exec (.rRx pick) s = .next s)

/-- R233, R264: a `SYN` in `LISTEN` opens the connection: registers, counters, table and sink are initialised and
the phase becomes `SYN_RCVD`; under an illegal `cfg.isn_r` only the sticky flag is set. -/
def Obligations.SynOpensTheReceiver : Prop :=
  ∀ (p : Packet) (s : State), s.rcv.phase = .listen → classify p = .syn →
    (s.cfg.isnR + 2 < 2 ^ 32 →
      exec (.rRxSyn p) s = .next { s with
        rcv := { s.rcv with
          isn := s.cfg.isnR, obs := [], rcvNxt := (p.seq.toNat + 1) % 2 ^ 32
          localAddr := p.dst, peer := p.src, finSeq := 0, sinkOpen := true, phase := .synRcvd }
        cntR := ⟨0, 0, 0, 0⟩
        sink := [] }) ∧
    (2 ^ 32 ≤ s.cfg.isnR + 2 →
      exec (.rRxSyn p) s = .next { s with rcv := { s.rcv with cfgErr := true } })

/-- R234, R235, R243: `R.SYNACK` logs and sends the `SYNACK` straight to `chan.RS` and waits; the handshake `ACK`
establishes the connection. -/
def Obligations.ReceiverAnswersTheHandshake : Prop :=
  ∀ (p : Packet) (s : State),
    (s.rcv.phase = .synRcvd →
      let f := (encodeFrame s.cfg.payloadMax ⟨s.rcv.localAddr, s.rcv.peer, BitVec.ofNat 32 s.rcv.isn,
        BitVec.ofNat 32 s.rcv.rcvNxt, s.cfg.rcvWnd, true, true, false, 0#64, []⟩).1
      exec .rSynack s = .next { s with
        chanRS := s.chanRS ++ [f]
        logR := s.logR ++ [⟨.snd, s.now, some .synack, some (s.rcv.isn % 2 ^ 32), 0,
          some (s.rcv.rcvNxt % 2 ^ 32)⟩]
        rcv := { s.rcv with phase := .awaitAck } }) ∧
    (s.rcv.phase = .awaitAck → classify p = .ack →
      exec (.rRxHsack p) s = .next { s with rcv := { s.rcv with phase := .established } })

/-- R237, R238: a segment at the expected number is appended once, moves the number by its length and is answered by
a fresh `ACK`; any other segment is counted and answered by the previous number. A closed sink stays as it is
(entry 18). -/
def Obligations.OnlyTheExpectedSegmentIsDelivered : Prop :=
  ∀ (p : Packet) (s : State),
    let reply := fun (a : Nat) => (encodeFrame s.cfg.payloadMax ⟨s.rcv.localAddr, s.rcv.peer,
      BitVec.ofNat 32 (s.rcv.isn + 1), BitVec.ofNat 32 a, s.cfg.rcvWnd, false, true, false, 0#64, []⟩).1
    let rec_ := fun (a : Nat) => (⟨.snd, s.now, some .ack, some ((s.rcv.isn + 1) % 2 ^ 32), 0,
      some (a % 2 ^ 32)⟩ : LogRec)
    (p.seq.toNat = s.rcv.rcvNxt →
      let a := (s.rcv.rcvNxt + p.payload.length) % 2 ^ 32
      exec (.rDataInorder p) s = .next { s with
        sink := if s.rcv.sinkOpen then s.sink ++ p.payload else s.sink
        rcv := { s.rcv with rcvNxt := a }
        chanRS := s.chanRS ++ [reply a]
        logR := s.logR ++ [rec_ a] }) ∧
    (p.seq.toNat ≠ s.rcv.rcvNxt →
      exec (.rDataOoo p) s = .next { s with
        cntR := { s.cntR with dupAcks := s.cntR.dupAcks + 1 }
        chanRS := s.chanRS ++ [reply s.rcv.rcvNxt]
        logR := s.logR ++ [rec_ s.rcv.rcvNxt] })

/-- R236: a `DATA` frame in `ESTABLISHED` is counted and observed, before the sequence test, and then runs the
in-order or the out-of-order rule. -/
def Obligations.DataIsObservedThenTested : Prop :=
  ∀ (p : Packet) (s : State), s.rcv.phase = .established → classify p = .data →
    let q := p.seq.toNat
    let n := countGet s.rcv.obs q
    let s1 := { s with
      cntR := { s.cntR with
        segmentsReceived := s.cntR.segmentsReceived + 1
        segmentsDuplicate := s.cntR.segmentsDuplicate + if 1 ≤ n then 1 else 0 }
      rcv := { s.rcv with obs := countSet s.rcv.obs q (n + 1) } }
    (q = s.rcv.rcvNxt →
      ∃ t, exec (.rDataInorder p) s1 = .next t ∧ exec (.rRxData p) s = .next t) ∧
    (q ≠ s.rcv.rcvNxt →
      ∃ t, exec (.rDataOoo p) s1 = .next t ∧ exec (.rRxData p) s = .next t)

/-- R239, R240, R241, R286: the `FIN` finalizes the sink; `R.CLOSE` sends the closing `ACK` and then the receiver's
`FIN`, both with the number behind the peer's `FIN`; the last `ACK` emits the counters and returns to `LISTEN`. -/
def Obligations.ReceiverClosesAndListens : Prop :=
  ∀ (p : Packet) (s : State),
    (s.rcv.phase = .established → classify p = .fin →
      exec (.rRxFin p) s = .next { s with
        rcv := { s.rcv with sinkOpen := false, finSeq := p.seq.toNat, phase := .finRcvd } }) ∧
    (s.rcv.phase = .finRcvd →
      let a := (s.rcv.finSeq + 1) % 2 ^ 32
      let f := fun (ack fin : Bool) => (encodeFrame s.cfg.payloadMax ⟨s.rcv.localAddr, s.rcv.peer,
        BitVec.ofNat 32 (s.rcv.isn + 1), BitVec.ofNat 32 a, s.cfg.rcvWnd, false, ack, fin, 0#64, []⟩).1
      exec .rClose s = .next { s with
        chanRS := s.chanRS ++ [f true false, f false true]
        logR := s.logR ++
          [⟨.snd, s.now, some .ack, some ((s.rcv.isn + 1) % 2 ^ 32), 0, some a⟩,
            ⟨.snd, s.now, some .fin, some ((s.rcv.isn + 1) % 2 ^ 32), 0, some a⟩]
        rcv := { s.rcv with phase := .lastAck } }) ∧
    (s.rcv.phase = .lastAck → classify p = .ack →
      exec (.rRxLastack p) s = .next { s with
        sumR := s.sumR ++ [s.cntR]
        rcv := { s.rcv with phase := .listen } })

/-! ### The environment -/

/-- R44, R290, R300: `CMD.RESET` gives every register of the spec its reset value and keeps the clock. `SRC` is not
changed by reset (R40) and, `cfg.src_len` being 0, has no bytes (R63, R300), which is the model's reading (entry 17); what
reset leaves of the environment's queued choices, the three uninterpreted values of R301 and the emptied summaries are the
model's (entries 14, 21, 25). `PAYLOAD_MAX`, a parameter, stays (R31; entry 10). -/
def Obligations.ResetRestoresEveryRegister : Prop :=
  ∀ s : State, ∃ t, exec .cmdReset s = .next t ∧
    t.snd = ⟨.idle, 0, 0, 0, 0, 0, Config.initErtt, Config.initDrtt, none, 0, [], [], false, false,
      false⟩ ∧
    t.rcv = ⟨.listen, 0, 0, ⟨0#8, 0#8, 0#8, 0#8⟩, ⟨0#8, 0#8, 0#8, 0#8⟩, 0, false, false, []⟩ ∧
    t.pld = ⟨none, 0, []⟩ ∧
    t.cfg = ⟨⟨0x7F#8, 0#8, 0#8, 1#8⟩, ⟨0x7F#8, 0#8, 0#8, 1#8⟩, Config.resetWindow, Config.resetMss,
      Config.resetGamma, 0, 0, 0, 0, 0, 0, 0, 0, 1, 0, .dataOnly, 0, 0#32, s.cfg.payloadMax⟩ ∧
    t.cntS = ⟨0, 0, 0, 0, 0, 0, 0, 0, 0⟩ ∧ t.cntR = ⟨0, 0, 0, 0⟩ ∧ t.chanSR = [] ∧ t.chanRS = [] ∧
    t.src = s.src ∧ srcBytes t = [] ∧ t.sink = [] ∧ t.logS = [] ∧ t.logR = [] ∧ t.sumS = [] ∧
    t.sumR = [] ∧ t.now = s.now ∧ t.env = s.env

/-- R292, R75: a configuration write takes effect exactly while its owner is idle (`IDLE` for sender and injector
registers and `SRC`, `LISTEN` for receiver registers), with no range check, and changes that register only; a
write of `SRC` makes its bytes readable and sets `cfg.src_len`. That an address behind the written bytes reads 0 (entry 16)
and that a write out of its guard leaves the error flags as they are (entry 31) are the model's. -/
def Obligations.ConfigurationWriteWhileIdle : Prop :=
  ∀ (w : CfgWrite) (s : State),
    let snd := fun (c : Cfg) =>
      exec (.cmdCfgwr w) s = .next (if s.snd.phase = .idle then { s with cfg := c } else s)
    let rcv := fun (c : Cfg) =>
      exec (.cmdCfgwr w) s = .next (if s.rcv.phase = .listen then { s with cfg := c } else s)
    match w with
    | .sLocal v => snd { s.cfg with sLocal := v }
    | .sPeer v => snd { s.cfg with sPeer := v }
    | .window v => snd { s.cfg with window := v }
    | .mss v => snd { s.cfg with mss := v }
    | .gamma v => snd { s.cfg with gamma := v }
    | .isnS v => snd { s.cfg with isnS := v }
    | .srcLen v => snd { s.cfg with srcLen := v }
    | .seed v => snd { s.cfg with seed := v }
    | .pDrop v => snd { s.cfg with pDrop := v }
    | .pDuplicate v => snd { s.cfg with pDuplicate := v }
    | .pCorrupt v => snd { s.cfg with pCorrupt := v }
    | .pReorder v => snd { s.cfg with pReorder := v }
    | .pDelay v => snd { s.cfg with pDelay := v }
    | .reorderMaxDelay v => snd { s.cfg with reorderMaxDelay := v }
    | .delayMaxDelay v => snd { s.cfg with delayMaxDelay := v }
    | .pldScope v => snd { s.cfg with pldScope := v }
    | .isnR v => rcv { s.cfg with isnR := v }
    | .rcvWnd v => rcv { s.cfg with rcvWnd := v }
    | .src v =>
      (s.snd.phase = .idle → ∃ m, exec (.cmdCfgwr w) s = .next { s with
          src := m, cfg := { s.cfg with srcLen := v.length } } ∧ Memory.wf m = true ∧
        ∀ a, memRead m a = (v[a]?).getD 0#8) ∧
      (s.snd.phase ≠ .idle → exec (.cmdCfgwr w) s = .next s)

/-- R293, R294: the clock moves by exactly the operand and nothing else changes; under UNORDERED_LOSSY a loss removes
one datagram of one direction, and under FIFO_RELIABLE it has no effect (entry 26). -/
def Obligations.ClockAndLossAct : Prop :=
  ∀ (dt : Time) (i : Nat) (s : State),
    (0 ≤ dt → exec (.clockAdvance dt) s = .next { s with now := s.now + dt }) ∧
    (match Config.channel with
      | .fifoReliable =>
        exec (.chanLose .sr i) s = .next s ∧ exec (.chanLose .rs i) s = .next s
      | .unorderedLossy =>
        exec (.chanLose .sr i) s = .next { s with chanSR := s.chanSR.eraseIdx i } ∧
          exec (.chanLose .rs i) s = .next { s with chanRS := s.chanRS.eraseIdx i })

/-- An operation issued where its guard does not hold is no step and changes nothing, the model's reading (entry 4). The
guard of `S.SEND` includes `s.base <= s.nxt` (entry 5), the datagram of a poll on an unordered channel is its operand
(entry 12), and a negative `CLOCK.ADVANCE` is no command (entry 24). The guards of `CMD.START`, `CMD.CFGWR`, `S.FASTRETX`,
`CHAN.LOSE` and the phases in which an engine does not poll stand in their own statements. -/
def Obligations.DisabledOperationsChangeNothing : Prop :=
  ∀ (s : State) (p : Packet) (f : Bytes) (dest : Addr) (retx : Bool) (m : Pending) (a : Nat) (dt : Time),
    (s.pld.held ≠ none → exec (.pldHold f dest retx) s = .next s) ∧
    (m ∉ s.pld.pending ∨ s.now < m.due → exec (.dlyFire m) s = .next s) ∧
    (s.snd.phase ≠ .idle ∨ senderConfigLegal s.cfg = false → exec .sOpen s = .next s) ∧
    (s.snd.phase ≠ .synSent ∨ classify p ≠ .synack → exec (.sRxSynack p) s = .next s) ∧
    (s.snd.phase ≠ .established → exec .sHsack s = .next s) ∧
    (s.snd.phase ≠ .dataTransfer ∨ s.snd.nxt < s.snd.base ∨ s.snd.base + s.cfg.srcLen ≤ s.snd.nxt ∨
        s.cfg.window < (s.snd.nxt - s.snd.una) +
          min s.cfg.mss (s.cfg.srcLen - (s.snd.nxt - s.snd.base)) → exec .sSend s = .next s) ∧
    (s.snd.phase ≠ .dataTransfer ∨ classify p ≠ .ack → exec (.sRxAck p) s = .next s) ∧
    (a ≤ s.snd.una ∨ s.snd.max < a → exec (.sAckFwd a) s = .next s) ∧
    (s.snd.una < a → exec (.sAckStale a) s = .next s) ∧
    (s.snd.phase ≠ .dataTransfer ∨ s.snd.outq = [] → exec .sTimeout s = .next s) ∧
    (∀ h q, s.snd.outq = h :: q → s.now < h.tSent + rto s → exec .sTimeout s = .next s) ∧
    (s.snd.phase ≠ .dataTransfer ∨ s.snd.una ≠ s.snd.base + s.cfg.srcLen →
      exec .sFin s = .next s) ∧
    (s.snd.phase ≠ .finWait ∨ s.snd.finAcked = true ∨ classify p ≠ .ack ∨
        p.ackNum.toNat ≠ s.snd.base + s.cfg.srcLen + 1 → exec (.sRxFinack p) s = .next s) ∧
    (s.snd.phase ≠ .finWait ∨ s.snd.finAcked = false ∨ classify p ≠ .fin →
      exec (.sRxPeerfin p) s = .next s) ∧
    (s.rcv.phase ≠ .listen ∨ classify p ≠ .syn → exec (.rRxSyn p) s = .next s) ∧
    (s.rcv.phase ≠ .synRcvd → exec .rSynack s = .next s) ∧
    (s.rcv.phase ≠ .awaitAck ∨ classify p ≠ .ack → exec (.rRxHsack p) s = .next s) ∧
    (s.rcv.phase ≠ .established ∨ classify p ≠ .data → exec (.rRxData p) s = .next s) ∧
    (p.seq.toNat ≠ s.rcv.rcvNxt → exec (.rDataInorder p) s = .next s) ∧
    (p.seq.toNat = s.rcv.rcvNxt → exec (.rDataOoo p) s = .next s) ∧
    (s.rcv.phase ≠ .established ∨ classify p ≠ .fin → exec (.rRxFin p) s = .next s) ∧
    (s.rcv.phase ≠ .finRcvd → exec .rClose s = .next s) ∧
    (s.rcv.phase ≠ .lastAck ∨ classify p ≠ .ack → exec (.rRxLastack p) s = .next s) ∧
    (dt < 0 → exec (.clockAdvance dt) s = .next s) ∧
    (s.chanRS = [] → exec (.sRx a) s = .next s) ∧ (s.chanSR = [] → exec (.rRx a) s = .next s) ∧
    (Config.channel = .unorderedLossy →
      (s.chanRS.length ≤ a → exec (.sRx a) s = .next s) ∧
      (s.chanSR.length ≤ a → exec (.rRx a) s = .next s))

/-! ### Whole-machine rules -/

/-- R210, R244: whatever admitted operation runs, each engine's phase stays or moves along a row of its table, by the
operation of that row and under its condition, a polled datagram being a valid one of the row's type. The operations of a
row include frames and `S.OPEN` issued by themselves, which are the model's (entries 7, 28). -/
def Obligations.PhasesFollowTheTables : Prop :=
  ∀ (i : Instr) (s t : State), i.wf s.cfg.payloadMax = true → exec i s = .next t →
    (t.snd.phase ≠ s.snd.phase → sndMove i s s.snd.phase t.snd.phase) ∧
      (t.rcv.phase ≠ s.rcv.phase → rcvMove i s s.rcv.phase t.rcv.phase)

/-- R42: only the owner's operations write a register; reset writes them all. A `DLY` agent writes only
`pld.pending` and `chan.SR`, beside the sender's log (R283). That a frame is the polling
engine's operation is the model's (entry 7). -/
def Obligations.OnlyTheOwnerWrites : Prop :=
  ∀ (i : Instr) (s t : State), exec i s = .next t → ownerOf i ≠ .reset →
    (ownerOf i ≠ .snd → sameSender s t) ∧ (ownerOf i ≠ .rcv → sameReceiver s t) ∧
    (ownerOf i ≠ .snd → ownerOf i ≠ .dly → t.pld = s.pld ∧ t.logS = s.logS) ∧
    (ownerOf i ≠ .host → t.cfg = s.cfg ∧ t.src = s.src) ∧ (ownerOf i ≠ .clock → t.now = s.now) ∧
    (ownerOf i = .codec ∨ ownerOf i = .host ∨ ownerOf i = .clock →
      t.chanSR = s.chanSR ∧ t.chanRS = s.chanRS) ∧
    (ownerOf i = .dly → t.chanRS = s.chanRS ∧ t.cntS = s.cntS ∧ t.cntR = s.cntR) ∧
    (ownerOf i ≠ .codec → t.result = s.result) ∧ t.env.sched = s.env.sched

/-- R27, R64, R264, R275, R281: no operation moves the clock back; a configuration-error flag, once set, is cleared
by `CMD.RESET` only; the sink only grows, and only while it is open, until a new connection or reset empties it. R199, R311,
R322: where a run has ended, which takes drained pending sends, no step of R14 but reset ends that or changes what is
observed. -/
def Obligations.ClockErrorsAndSinkKeepTheirHistory : Prop :=
  ∀ (i : Instr) (s t : State), exec i s = .next t →
    s.now ≤ t.now ∧
      (i ≠ .cmdReset → (s.snd.cfgErr = true → t.snd.cfgErr = true) ∧
        (s.rcv.cfgErr = true → t.rcv.cfgErr = true)) ∧
      ((s.sink <+: t.sink ∧ (s.rcv.sinkOpen = false → t.sink = s.sink)) ∨
        (t.sink = [] ∧ (i = .cmdReset ∨ (s.rcv.phase = .listen ∧ t.rcv.phase = .synRcvd)))) ∧
      (s.snd.phase = .closed → s.rcv.phase = .listen → s.rcv.sinkOpen = false → s.chanSR = [] →
        s.pld.pending = [] → isStep i = true → i ≠ .cmdReset →
        runEnded s = true ∧ runEnded t = true ∧ observe t = observe s)

/-! ### Invariants -/

/-- The machine right after reset meets every invariant. -/
def Obligations.ResetMeetsTheInvariants : Prop :=
  windowSafe State.reset ∧ outqSafe State.reset ∧ timeSafe State.reset ∧ holdSafe State.reset ∧
    countersSafe State.reset ∧ registersSafe State.reset ∧ deliverySafe State.reset

/-- R41, R205: every step keeps the order of the sender's pointers and the window bound. -/
def Obligations.StepKeepsTheWindow : Prop :=
  ∀ s t : State, windowSafe s → step s = .next t → windowSafe t

/-- R41, R32: every step keeps the outstanding-segment table sorted, contiguous and between `s.una` and `s.nxt`. -/
def Obligations.StepKeepsTheOutstandingTable : Prop :=
  ∀ s t : State, windowSafe s → outqSafe s → step s = .next t → outqSafe t

/-- R200, R206, R275: every step keeps recorded times behind the clock and the estimator non-negative, for
every non-negative initial estimator. -/
def Obligations.StepKeepsTimesInOrder : Prop :=
  ∀ s t : State, timeSafe s → step s = .next t → timeSafe t

/-- R26, R159, R164: every step keeps the hold's two register laws. -/
def Obligations.StepKeepsTheHoldLaws : Prop :=
  ∀ s t : State, holdSafe s → step s = .next t → holdSafe t

/-- R246: every step keeps the two counter laws over the observation table. -/
def Obligations.StepKeepsTheCounterLaws : Prop :=
  ∀ s t : State, countersSafe s → step s = .next t → countersSafe t

/-- R13, R27: every step keeps the handle flags with their phases, the memories canonical and the receiver's
numbers within 32 bits. -/
def Obligations.StepKeepsFlagsAndMemories : Prop :=
  ∀ s t : State, registersSafe s → step s = .next t → registersSafe t

/-- R245 with R209: whatever the injector, the channel and the schedule do, every step of R14 keeps `SINK` equal to
the source up to the number the receiver expects. Sub-operations and frames issued by themselves, which are no such
steps, are the model's (entries 5, 7). -/
def Obligations.StepsDeliverTheSourceInOrder : Prop :=
  ∀ (s t : State) (slot : Slot) (rest : List Slot) (i : Instr), windowSafe s → registersSafe s →
    deliverySafe s → s.env.sched = slot :: rest → decode s.cfg.payloadMax slot = .ok i →
    isStep i = true → step s = .next t → deliverySafe t
end

