-- ==== Sys2Proof/Laws/Codec.lean ====
section
/-! SUPPORT. The codec's small laws: byte orders undo one another, the cut of a frame at its offsets loses nothing,
and which bytes the checksum field and `FLIP6` reach. -/

namespace Sys2Proof.Machine

open Sys2Proof

/-! ### Byte order -/

theorem beInt4_be32 (v : U32) : beInt4 (be32 v) = v := by
  unfold beInt4 be32
  ext i hi
  simp
  grind

theorem be32_beInt4 (q : Quad) : be32 (beInt4 q) = q := by
  cases q
  simp only [be32, beInt4, Quad.mk.injEq]
  refine ⟨?_, ?_, ?_, ?_⟩ <;> (ext i hi; simp; grind)

theorem beInt8_be64 (v : U64) : beInt8 (be64Hi v) (be64Lo v) = v := by
  unfold beInt8 be64Hi be64Lo
  rw [beInt4_be32, beInt4_be32]
  ext i hi
  simp
  grind

theorem be64Hi_beInt8 (a b : Quad) : be64Hi (beInt8 a b) = a := by
  have h : (beInt4 a ++ beInt4 b).extractLsb' 32 32 = beInt4 a := by ext i hi; simp; grind
  rw [be64Hi, beInt8, h, be32_beInt4]

theorem be64Lo_beInt8 (a b : Quad) : be64Lo (beInt8 a b) = b := by
  have h : (beInt4 a ++ beInt4 b).extractLsb' 0 32 = beInt4 b := by ext i hi; simp; grind
  rw [be64Lo, beInt8, h, be32_beInt4]

/-- The high half of a checksum is zero (R96). -/
theorem be64Hi_checksumOf (d : Quad) : be64Hi (checksumOf d) = Quad.zero := by
  simp only [be64Hi, checksumOf, be32, Quad.zero, Quad.mk.injEq]
  refine ⟨?_, ?_, ?_, ?_⟩ <;> (ext i hi; simp; try grind)

/-- The low half of a checksum is the digest with its bytes in the other order (R96). -/
theorem be64Lo_checksumOf (d : Quad) : be64Lo (checksumOf d) = ⟨d.b3, d.b2, d.b1, d.b0⟩ := by
  have h : BitVec.extractLsb' 0 32 (checksumOf d) = beInt4 ⟨d.b3, d.b2, d.b1, d.b0⟩ := by
    unfold checksumOf leInt4 beInt4
    ext i hi
    simp
    grind
  rw [be64Lo, h, be32_beInt4]

/-- A checksum determines its digest. -/
theorem checksumOf_inj (d e : Quad) (h : checksumOf d = checksumOf e) : d = e := by
  have h2 := congrArg be64Lo h
  rw [be64Lo_checksumOf, be64Lo_checksumOf] at h2
  cases d
  cases e
  simp at h2 ⊢
  tauto

/-! ### The header -/

theorem flagOfByte_flagByte (v : Bool) : flagOfByte (flagByte v) = v := by cases v <;> decide

theorem hdr_length (p : Packet) (c : U64) : (hdr p c).length = 32 := rfl

theorem zerock_hdr (p : Packet) (c : U64) (pl : Bytes) : zerock (hdr p c ++ pl) = hdr p 0#64 ++ pl := by
  unfold zerock
  rw [List.drop_append_of_le_length (by rw [hdr_length]),
    List.take_append_of_le_length (by rw [hdr_length]; omega)]
  rfl

/-- The checksum field of a header reads back. -/
theorem checksum_hdr (p : Packet) (c : U64) (pl : Bytes) :
    beInt8 (quadAt (hdr p c ++ pl) 24) (quadAt (hdr p c ++ pl) 28) = c :=
  beInt8_be64 c

/-- Every field of a header reads back at its offset (R62). -/
theorem packetAt_hdr (p : Packet) (c : U64) : packetAt (hdr p c ++ p.payload) = { p with checksum := c } := by
  have h1 : beInt4 (quadAt (hdr p c ++ p.payload) 8) = p.seq := beInt4_be32 p.seq
  have h2 : beInt4 (quadAt (hdr p c ++ p.payload) 12) = p.ackNum := beInt4_be32 p.ackNum
  have h3 : beInt4 (quadAt (hdr p c ++ p.payload) 16) = p.window := beInt4_be32 p.window
  have h4 : flagOfByte (byteAt (hdr p c ++ p.payload) 20) = p.syn := flagOfByte_flagByte p.syn
  have h5 : flagOfByte (byteAt (hdr p c ++ p.payload) 21) = p.ack := flagOfByte_flagByte p.ack
  have h6 : flagOfByte (byteAt (hdr p c ++ p.payload) 22) = p.fin := flagOfByte_flagByte p.fin
  rw [packetAt, h1, h2, h3, h4, h5, h6, checksum_hdr]
  rfl

/-! ### The cut -/

theorem wireBytes_length (w : WireFrame) : (wireBytes w).length = 32 + w.payload.length := by
  simp [wireBytes, quadBytes]
  omega

theorem frameType_wireBytes (w : WireFrame) : frameType (wireBytes w) = wireType w := rfl

theorem wireType_wireAt (f : Bytes) : wireType (wireAt f) = frameType f := rfl

/-- Cutting the bytes of a cut frame gives the frame back. -/
theorem wireAt_wireBytes (w : WireFrame) : wireAt (wireBytes w) = w := by
  have h1 : beInt4 (quadAt (wireBytes w) 8) = w.seq := beInt4_be32 w.seq
  have h2 : beInt4 (quadAt (wireBytes w) 12) = w.ackNum := beInt4_be32 w.ackNum
  have h3 : beInt4 (quadAt (wireBytes w) 16) = w.window := beInt4_be32 w.window
  have h4 : beInt8 (quadAt (wireBytes w) 24) (quadAt (wireBytes w) 28) = w.checksum := beInt8_be64 w.checksum
  rw [wireAt, h1, h2, h3, h4]
  rfl

/-- The packet at a cut frame's bytes has the type that the frame's flag bytes select. -/
theorem classify_packetAt (f : Bytes) : classify (packetAt f) = frameType f := rfl

/-- A datagram that passes `DECODE` decodes to the packet at its offsets. -/
theorem decodeFrame_ok (f : Bytes) (p : Packet) (pm : Nat) (h : decodeFrame pm f = .ok p) :
    p = packetAt f ∧ 32 ≤ f.length ∧ f.length ≤ 32 + pm := by
  unfold decodeFrame decodeFrameWith at h
  split_ifs at h with h1 h2
  cases h
  exact ⟨rfl, Nat.le_of_not_lt h1, Nat.le_of_not_lt h2⟩

/-! ### `FLIP6` -/

theorem flip6_eq (f : Bytes) (h : 6 < f.length) : flip6 f = f.set 6 (byteAt f 6 ^^^ 0x65#8) := if_pos h

theorem flip6_length (f : Bytes) (h : 6 < f.length) : (flip6 f).length = f.length := by simp [flip6_eq f h]

theorem flip6_getElem? (f : Bytes) (i : Nat) (hf : 6 < f.length) (h : i ≠ 6) : (flip6 f)[i]? = f[i]? := by
  simp [flip6_eq f hf, Ne.symm h]

theorem flip6_flip6 (f : Bytes) (hf : 6 < f.length) : flip6 (flip6 f) = f := by
  rw [flip6_eq (flip6 f) (by rw [flip6_length f hf]; exact hf), flip6_eq f hf]
  unfold byteAt
  apply List.ext_getElem?
  intro i
  rw [List.getElem?_set, List.getElem?_set, List.getD_eq_getElem?_getD, List.getD_eq_getElem?_getD,
    List.getElem?_set]
  by_cases h : 6 = i
  · subst h
    by_cases h2 : 6 < f.length
    · simp [h2]
    · simp [h2]
  · simp [h]

theorem quadAt_flip6 (f : Bytes) (o : Nat) (hf : 6 < f.length) (h : 6 < o) : quadAt (flip6 f) o = quadAt f o := by
  simp only [quadAt, byteAt, List.getD_eq_getElem?_getD]
  rw [flip6_getElem? _ _ hf (by omega), flip6_getElem? _ _ hf (by omega), flip6_getElem? _ _ hf (by omega),
    flip6_getElem? _ _ hf (by omega)]

theorem zerock_flip6 (f : Bytes) (h : 6 < f.length) : zerock (flip6 f) = flip6 (zerock f) := by
  rw [flip6_eq f h, flip6_eq (zerock f) (by simp [zerock]; omega)]
  unfold zerock byteAt
  rw [List.take_set, List.drop_set_of_lt (by omega), List.append_assoc, List.append_assoc,
    List.set_append_left _ _ (by simp; omega)]
  congr 2
  simp [List.getElem?_append, h]

/-- `FLIP6` stays in P2's domain (R136). -/
theorem digestDomain_flip6 (pm : Nat) (m : Bytes) (h : 24 ≤ m.length) :
    digestDomain pm (flip6 m) = digestDomain pm m := by
  have h6 : 6 < m.length := by omega
  rw [digestDomain, digestDomain, flip6_length m h6, flip6_eq m h6, List.drop_set_of_lt (by omega)]

/-- Outside P2's domain the digest is the arbitrary function (R136). -/
theorem digest4_of_not_domain (pm : Nat) (m : Bytes) (h : digestDomain pm m = false) :
    digest4 pm m = Config.digest4Free m := by
  simp [digest4, h]

/-- On P2's domain, where the arbitrary function has P2 already, the digest is that function (R136; entry 9). -/
theorem digest4_of_ne (pm : Nat) (m : Bytes) (h : Config.digest4Free m ≠ Config.digest4Free (flip6 m)) :
    digest4 pm m = Config.digest4Free m := by
  simp [digest4, h]

end Sys2Proof.Machine
end

