-- ==== Sys2Proof/Laws/State.lean ====
section
/-! SUPPORT. One lemma per field and update of the state: what a replaced field reads, and that every other
field reads as before. -/

namespace Sys2Proof.Machine

variable (s : State)

@[simp] theorem State.withSnd_snd (x : Snd) : (s.withSnd x).snd = x := rfl
@[simp] theorem State.withSnd_rcv (x : Snd) : (s.withSnd x).rcv = s.rcv := rfl
@[simp] theorem State.withSnd_pld (x : Snd) : (s.withSnd x).pld = s.pld := rfl
@[simp] theorem State.withSnd_cfg (x : Snd) : (s.withSnd x).cfg = s.cfg := rfl
@[simp] theorem State.withSnd_cntS (x : Snd) : (s.withSnd x).cntS = s.cntS := rfl
@[simp] theorem State.withSnd_cntR (x : Snd) : (s.withSnd x).cntR = s.cntR := rfl
@[simp] theorem State.withSnd_chanSR (x : Snd) : (s.withSnd x).chanSR = s.chanSR := rfl
@[simp] theorem State.withSnd_chanRS (x : Snd) : (s.withSnd x).chanRS = s.chanRS := rfl
@[simp] theorem State.withSnd_src (x : Snd) : (s.withSnd x).src = s.src := rfl
@[simp] theorem State.withSnd_sink (x : Snd) : (s.withSnd x).sink = s.sink := rfl
@[simp] theorem State.withSnd_logS (x : Snd) : (s.withSnd x).logS = s.logS := rfl
@[simp] theorem State.withSnd_logR (x : Snd) : (s.withSnd x).logR = s.logR := rfl
@[simp] theorem State.withSnd_sumS (x : Snd) : (s.withSnd x).sumS = s.sumS := rfl
@[simp] theorem State.withSnd_sumR (x : Snd) : (s.withSnd x).sumR = s.sumR := rfl
@[simp] theorem State.withSnd_now (x : Snd) : (s.withSnd x).now = s.now := rfl
@[simp] theorem State.withSnd_result (x : Snd) : (s.withSnd x).result = s.result := rfl
@[simp] theorem State.withSnd_env (x : Snd) : (s.withSnd x).env = s.env := rfl

@[simp] theorem State.withRcv_snd (x : Rcv) : (s.withRcv x).snd = s.snd := rfl
@[simp] theorem State.withRcv_rcv (x : Rcv) : (s.withRcv x).rcv = x := rfl
@[simp] theorem State.withRcv_pld (x : Rcv) : (s.withRcv x).pld = s.pld := rfl
@[simp] theorem State.withRcv_cfg (x : Rcv) : (s.withRcv x).cfg = s.cfg := rfl
@[simp] theorem State.withRcv_cntS (x : Rcv) : (s.withRcv x).cntS = s.cntS := rfl
@[simp] theorem State.withRcv_cntR (x : Rcv) : (s.withRcv x).cntR = s.cntR := rfl
@[simp] theorem State.withRcv_chanSR (x : Rcv) : (s.withRcv x).chanSR = s.chanSR := rfl
@[simp] theorem State.withRcv_chanRS (x : Rcv) : (s.withRcv x).chanRS = s.chanRS := rfl
@[simp] theorem State.withRcv_src (x : Rcv) : (s.withRcv x).src = s.src := rfl
@[simp] theorem State.withRcv_sink (x : Rcv) : (s.withRcv x).sink = s.sink := rfl
@[simp] theorem State.withRcv_logS (x : Rcv) : (s.withRcv x).logS = s.logS := rfl
@[simp] theorem State.withRcv_logR (x : Rcv) : (s.withRcv x).logR = s.logR := rfl
@[simp] theorem State.withRcv_sumS (x : Rcv) : (s.withRcv x).sumS = s.sumS := rfl
@[simp] theorem State.withRcv_sumR (x : Rcv) : (s.withRcv x).sumR = s.sumR := rfl
@[simp] theorem State.withRcv_now (x : Rcv) : (s.withRcv x).now = s.now := rfl
@[simp] theorem State.withRcv_result (x : Rcv) : (s.withRcv x).result = s.result := rfl
@[simp] theorem State.withRcv_env (x : Rcv) : (s.withRcv x).env = s.env := rfl

@[simp] theorem State.withPld_snd (x : Pld) : (s.withPld x).snd = s.snd := rfl
@[simp] theorem State.withPld_rcv (x : Pld) : (s.withPld x).rcv = s.rcv := rfl
@[simp] theorem State.withPld_pld (x : Pld) : (s.withPld x).pld = x := rfl
@[simp] theorem State.withPld_cfg (x : Pld) : (s.withPld x).cfg = s.cfg := rfl
@[simp] theorem State.withPld_cntS (x : Pld) : (s.withPld x).cntS = s.cntS := rfl
@[simp] theorem State.withPld_cntR (x : Pld) : (s.withPld x).cntR = s.cntR := rfl
@[simp] theorem State.withPld_chanSR (x : Pld) : (s.withPld x).chanSR = s.chanSR := rfl
@[simp] theorem State.withPld_chanRS (x : Pld) : (s.withPld x).chanRS = s.chanRS := rfl
@[simp] theorem State.withPld_src (x : Pld) : (s.withPld x).src = s.src := rfl
@[simp] theorem State.withPld_sink (x : Pld) : (s.withPld x).sink = s.sink := rfl
@[simp] theorem State.withPld_logS (x : Pld) : (s.withPld x).logS = s.logS := rfl
@[simp] theorem State.withPld_logR (x : Pld) : (s.withPld x).logR = s.logR := rfl
@[simp] theorem State.withPld_sumS (x : Pld) : (s.withPld x).sumS = s.sumS := rfl
@[simp] theorem State.withPld_sumR (x : Pld) : (s.withPld x).sumR = s.sumR := rfl
@[simp] theorem State.withPld_now (x : Pld) : (s.withPld x).now = s.now := rfl
@[simp] theorem State.withPld_result (x : Pld) : (s.withPld x).result = s.result := rfl
@[simp] theorem State.withPld_env (x : Pld) : (s.withPld x).env = s.env := rfl

@[simp] theorem State.withCfg_snd (x : Cfg) : (s.withCfg x).snd = s.snd := rfl
@[simp] theorem State.withCfg_rcv (x : Cfg) : (s.withCfg x).rcv = s.rcv := rfl
@[simp] theorem State.withCfg_pld (x : Cfg) : (s.withCfg x).pld = s.pld := rfl
@[simp] theorem State.withCfg_cfg (x : Cfg) : (s.withCfg x).cfg = x := rfl
@[simp] theorem State.withCfg_cntS (x : Cfg) : (s.withCfg x).cntS = s.cntS := rfl
@[simp] theorem State.withCfg_cntR (x : Cfg) : (s.withCfg x).cntR = s.cntR := rfl
@[simp] theorem State.withCfg_chanSR (x : Cfg) : (s.withCfg x).chanSR = s.chanSR := rfl
@[simp] theorem State.withCfg_chanRS (x : Cfg) : (s.withCfg x).chanRS = s.chanRS := rfl
@[simp] theorem State.withCfg_src (x : Cfg) : (s.withCfg x).src = s.src := rfl
@[simp] theorem State.withCfg_sink (x : Cfg) : (s.withCfg x).sink = s.sink := rfl
@[simp] theorem State.withCfg_logS (x : Cfg) : (s.withCfg x).logS = s.logS := rfl
@[simp] theorem State.withCfg_logR (x : Cfg) : (s.withCfg x).logR = s.logR := rfl
@[simp] theorem State.withCfg_sumS (x : Cfg) : (s.withCfg x).sumS = s.sumS := rfl
@[simp] theorem State.withCfg_sumR (x : Cfg) : (s.withCfg x).sumR = s.sumR := rfl
@[simp] theorem State.withCfg_now (x : Cfg) : (s.withCfg x).now = s.now := rfl
@[simp] theorem State.withCfg_result (x : Cfg) : (s.withCfg x).result = s.result := rfl
@[simp] theorem State.withCfg_env (x : Cfg) : (s.withCfg x).env = s.env := rfl

@[simp] theorem State.withCntS_snd (x : CntS) : (s.withCntS x).snd = s.snd := rfl
@[simp] theorem State.withCntS_rcv (x : CntS) : (s.withCntS x).rcv = s.rcv := rfl
@[simp] theorem State.withCntS_pld (x : CntS) : (s.withCntS x).pld = s.pld := rfl
@[simp] theorem State.withCntS_cfg (x : CntS) : (s.withCntS x).cfg = s.cfg := rfl
@[simp] theorem State.withCntS_cntS (x : CntS) : (s.withCntS x).cntS = x := rfl
@[simp] theorem State.withCntS_cntR (x : CntS) : (s.withCntS x).cntR = s.cntR := rfl
@[simp] theorem State.withCntS_chanSR (x : CntS) : (s.withCntS x).chanSR = s.chanSR := rfl
@[simp] theorem State.withCntS_chanRS (x : CntS) : (s.withCntS x).chanRS = s.chanRS := rfl
@[simp] theorem State.withCntS_src (x : CntS) : (s.withCntS x).src = s.src := rfl
@[simp] theorem State.withCntS_sink (x : CntS) : (s.withCntS x).sink = s.sink := rfl
@[simp] theorem State.withCntS_logS (x : CntS) : (s.withCntS x).logS = s.logS := rfl
@[simp] theorem State.withCntS_logR (x : CntS) : (s.withCntS x).logR = s.logR := rfl
@[simp] theorem State.withCntS_sumS (x : CntS) : (s.withCntS x).sumS = s.sumS := rfl
@[simp] theorem State.withCntS_sumR (x : CntS) : (s.withCntS x).sumR = s.sumR := rfl
@[simp] theorem State.withCntS_now (x : CntS) : (s.withCntS x).now = s.now := rfl
@[simp] theorem State.withCntS_result (x : CntS) : (s.withCntS x).result = s.result := rfl
@[simp] theorem State.withCntS_env (x : CntS) : (s.withCntS x).env = s.env := rfl

@[simp] theorem State.withCntR_snd (x : CntR) : (s.withCntR x).snd = s.snd := rfl
@[simp] theorem State.withCntR_rcv (x : CntR) : (s.withCntR x).rcv = s.rcv := rfl
@[simp] theorem State.withCntR_pld (x : CntR) : (s.withCntR x).pld = s.pld := rfl
@[simp] theorem State.withCntR_cfg (x : CntR) : (s.withCntR x).cfg = s.cfg := rfl
@[simp] theorem State.withCntR_cntS (x : CntR) : (s.withCntR x).cntS = s.cntS := rfl
@[simp] theorem State.withCntR_cntR (x : CntR) : (s.withCntR x).cntR = x := rfl
@[simp] theorem State.withCntR_chanSR (x : CntR) : (s.withCntR x).chanSR = s.chanSR := rfl
@[simp] theorem State.withCntR_chanRS (x : CntR) : (s.withCntR x).chanRS = s.chanRS := rfl
@[simp] theorem State.withCntR_src (x : CntR) : (s.withCntR x).src = s.src := rfl
@[simp] theorem State.withCntR_sink (x : CntR) : (s.withCntR x).sink = s.sink := rfl
@[simp] theorem State.withCntR_logS (x : CntR) : (s.withCntR x).logS = s.logS := rfl
@[simp] theorem State.withCntR_logR (x : CntR) : (s.withCntR x).logR = s.logR := rfl
@[simp] theorem State.withCntR_sumS (x : CntR) : (s.withCntR x).sumS = s.sumS := rfl
@[simp] theorem State.withCntR_sumR (x : CntR) : (s.withCntR x).sumR = s.sumR := rfl
@[simp] theorem State.withCntR_now (x : CntR) : (s.withCntR x).now = s.now := rfl
@[simp] theorem State.withCntR_result (x : CntR) : (s.withCntR x).result = s.result := rfl
@[simp] theorem State.withCntR_env (x : CntR) : (s.withCntR x).env = s.env := rfl

@[simp] theorem State.withChanSR_snd (x : List Bytes) : (s.withChanSR x).snd = s.snd := rfl
@[simp] theorem State.withChanSR_rcv (x : List Bytes) : (s.withChanSR x).rcv = s.rcv := rfl
@[simp] theorem State.withChanSR_pld (x : List Bytes) : (s.withChanSR x).pld = s.pld := rfl
@[simp] theorem State.withChanSR_cfg (x : List Bytes) : (s.withChanSR x).cfg = s.cfg := rfl
@[simp] theorem State.withChanSR_cntS (x : List Bytes) : (s.withChanSR x).cntS = s.cntS := rfl
@[simp] theorem State.withChanSR_cntR (x : List Bytes) : (s.withChanSR x).cntR = s.cntR := rfl
@[simp] theorem State.withChanSR_chanSR (x : List Bytes) : (s.withChanSR x).chanSR = x := rfl
@[simp] theorem State.withChanSR_chanRS (x : List Bytes) : (s.withChanSR x).chanRS = s.chanRS := rfl
@[simp] theorem State.withChanSR_src (x : List Bytes) : (s.withChanSR x).src = s.src := rfl
@[simp] theorem State.withChanSR_sink (x : List Bytes) : (s.withChanSR x).sink = s.sink := rfl
@[simp] theorem State.withChanSR_logS (x : List Bytes) : (s.withChanSR x).logS = s.logS := rfl
@[simp] theorem State.withChanSR_logR (x : List Bytes) : (s.withChanSR x).logR = s.logR := rfl
@[simp] theorem State.withChanSR_sumS (x : List Bytes) : (s.withChanSR x).sumS = s.sumS := rfl
@[simp] theorem State.withChanSR_sumR (x : List Bytes) : (s.withChanSR x).sumR = s.sumR := rfl
@[simp] theorem State.withChanSR_now (x : List Bytes) : (s.withChanSR x).now = s.now := rfl
@[simp] theorem State.withChanSR_result (x : List Bytes) : (s.withChanSR x).result = s.result := rfl
@[simp] theorem State.withChanSR_env (x : List Bytes) : (s.withChanSR x).env = s.env := rfl

@[simp] theorem State.withChanRS_snd (x : List Bytes) : (s.withChanRS x).snd = s.snd := rfl
@[simp] theorem State.withChanRS_rcv (x : List Bytes) : (s.withChanRS x).rcv = s.rcv := rfl
@[simp] theorem State.withChanRS_pld (x : List Bytes) : (s.withChanRS x).pld = s.pld := rfl
@[simp] theorem State.withChanRS_cfg (x : List Bytes) : (s.withChanRS x).cfg = s.cfg := rfl
@[simp] theorem State.withChanRS_cntS (x : List Bytes) : (s.withChanRS x).cntS = s.cntS := rfl
@[simp] theorem State.withChanRS_cntR (x : List Bytes) : (s.withChanRS x).cntR = s.cntR := rfl
@[simp] theorem State.withChanRS_chanSR (x : List Bytes) : (s.withChanRS x).chanSR = s.chanSR := rfl
@[simp] theorem State.withChanRS_chanRS (x : List Bytes) : (s.withChanRS x).chanRS = x := rfl
@[simp] theorem State.withChanRS_src (x : List Bytes) : (s.withChanRS x).src = s.src := rfl
@[simp] theorem State.withChanRS_sink (x : List Bytes) : (s.withChanRS x).sink = s.sink := rfl
@[simp] theorem State.withChanRS_logS (x : List Bytes) : (s.withChanRS x).logS = s.logS := rfl
@[simp] theorem State.withChanRS_logR (x : List Bytes) : (s.withChanRS x).logR = s.logR := rfl
@[simp] theorem State.withChanRS_sumS (x : List Bytes) : (s.withChanRS x).sumS = s.sumS := rfl
@[simp] theorem State.withChanRS_sumR (x : List Bytes) : (s.withChanRS x).sumR = s.sumR := rfl
@[simp] theorem State.withChanRS_now (x : List Bytes) : (s.withChanRS x).now = s.now := rfl
@[simp] theorem State.withChanRS_result (x : List Bytes) : (s.withChanRS x).result = s.result := rfl
@[simp] theorem State.withChanRS_env (x : List Bytes) : (s.withChanRS x).env = s.env := rfl

@[simp] theorem State.withSrc_snd (x : Memory) : (s.withSrc x).snd = s.snd := rfl
@[simp] theorem State.withSrc_rcv (x : Memory) : (s.withSrc x).rcv = s.rcv := rfl
@[simp] theorem State.withSrc_pld (x : Memory) : (s.withSrc x).pld = s.pld := rfl
@[simp] theorem State.withSrc_cfg (x : Memory) : (s.withSrc x).cfg = s.cfg := rfl
@[simp] theorem State.withSrc_cntS (x : Memory) : (s.withSrc x).cntS = s.cntS := rfl
@[simp] theorem State.withSrc_cntR (x : Memory) : (s.withSrc x).cntR = s.cntR := rfl
@[simp] theorem State.withSrc_chanSR (x : Memory) : (s.withSrc x).chanSR = s.chanSR := rfl
@[simp] theorem State.withSrc_chanRS (x : Memory) : (s.withSrc x).chanRS = s.chanRS := rfl
@[simp] theorem State.withSrc_src (x : Memory) : (s.withSrc x).src = x := rfl
@[simp] theorem State.withSrc_sink (x : Memory) : (s.withSrc x).sink = s.sink := rfl
@[simp] theorem State.withSrc_logS (x : Memory) : (s.withSrc x).logS = s.logS := rfl
@[simp] theorem State.withSrc_logR (x : Memory) : (s.withSrc x).logR = s.logR := rfl
@[simp] theorem State.withSrc_sumS (x : Memory) : (s.withSrc x).sumS = s.sumS := rfl
@[simp] theorem State.withSrc_sumR (x : Memory) : (s.withSrc x).sumR = s.sumR := rfl
@[simp] theorem State.withSrc_now (x : Memory) : (s.withSrc x).now = s.now := rfl
@[simp] theorem State.withSrc_result (x : Memory) : (s.withSrc x).result = s.result := rfl
@[simp] theorem State.withSrc_env (x : Memory) : (s.withSrc x).env = s.env := rfl

@[simp] theorem State.withSink_snd (x : Bytes) : (s.withSink x).snd = s.snd := rfl
@[simp] theorem State.withSink_rcv (x : Bytes) : (s.withSink x).rcv = s.rcv := rfl
@[simp] theorem State.withSink_pld (x : Bytes) : (s.withSink x).pld = s.pld := rfl
@[simp] theorem State.withSink_cfg (x : Bytes) : (s.withSink x).cfg = s.cfg := rfl
@[simp] theorem State.withSink_cntS (x : Bytes) : (s.withSink x).cntS = s.cntS := rfl
@[simp] theorem State.withSink_cntR (x : Bytes) : (s.withSink x).cntR = s.cntR := rfl
@[simp] theorem State.withSink_chanSR (x : Bytes) : (s.withSink x).chanSR = s.chanSR := rfl
@[simp] theorem State.withSink_chanRS (x : Bytes) : (s.withSink x).chanRS = s.chanRS := rfl
@[simp] theorem State.withSink_src (x : Bytes) : (s.withSink x).src = s.src := rfl
@[simp] theorem State.withSink_sink (x : Bytes) : (s.withSink x).sink = x := rfl
@[simp] theorem State.withSink_logS (x : Bytes) : (s.withSink x).logS = s.logS := rfl
@[simp] theorem State.withSink_logR (x : Bytes) : (s.withSink x).logR = s.logR := rfl
@[simp] theorem State.withSink_sumS (x : Bytes) : (s.withSink x).sumS = s.sumS := rfl
@[simp] theorem State.withSink_sumR (x : Bytes) : (s.withSink x).sumR = s.sumR := rfl
@[simp] theorem State.withSink_now (x : Bytes) : (s.withSink x).now = s.now := rfl
@[simp] theorem State.withSink_result (x : Bytes) : (s.withSink x).result = s.result := rfl
@[simp] theorem State.withSink_env (x : Bytes) : (s.withSink x).env = s.env := rfl

@[simp] theorem State.withLogS_snd (x : List LogRec) : (s.withLogS x).snd = s.snd := rfl
@[simp] theorem State.withLogS_rcv (x : List LogRec) : (s.withLogS x).rcv = s.rcv := rfl
@[simp] theorem State.withLogS_pld (x : List LogRec) : (s.withLogS x).pld = s.pld := rfl
@[simp] theorem State.withLogS_cfg (x : List LogRec) : (s.withLogS x).cfg = s.cfg := rfl
@[simp] theorem State.withLogS_cntS (x : List LogRec) : (s.withLogS x).cntS = s.cntS := rfl
@[simp] theorem State.withLogS_cntR (x : List LogRec) : (s.withLogS x).cntR = s.cntR := rfl
@[simp] theorem State.withLogS_chanSR (x : List LogRec) : (s.withLogS x).chanSR = s.chanSR := rfl
@[simp] theorem State.withLogS_chanRS (x : List LogRec) : (s.withLogS x).chanRS = s.chanRS := rfl
@[simp] theorem State.withLogS_src (x : List LogRec) : (s.withLogS x).src = s.src := rfl
@[simp] theorem State.withLogS_sink (x : List LogRec) : (s.withLogS x).sink = s.sink := rfl
@[simp] theorem State.withLogS_logS (x : List LogRec) : (s.withLogS x).logS = x := rfl
@[simp] theorem State.withLogS_logR (x : List LogRec) : (s.withLogS x).logR = s.logR := rfl
@[simp] theorem State.withLogS_sumS (x : List LogRec) : (s.withLogS x).sumS = s.sumS := rfl
@[simp] theorem State.withLogS_sumR (x : List LogRec) : (s.withLogS x).sumR = s.sumR := rfl
@[simp] theorem State.withLogS_now (x : List LogRec) : (s.withLogS x).now = s.now := rfl
@[simp] theorem State.withLogS_result (x : List LogRec) : (s.withLogS x).result = s.result := rfl
@[simp] theorem State.withLogS_env (x : List LogRec) : (s.withLogS x).env = s.env := rfl

@[simp] theorem State.withLogR_snd (x : List LogRec) : (s.withLogR x).snd = s.snd := rfl
@[simp] theorem State.withLogR_rcv (x : List LogRec) : (s.withLogR x).rcv = s.rcv := rfl
@[simp] theorem State.withLogR_pld (x : List LogRec) : (s.withLogR x).pld = s.pld := rfl
@[simp] theorem State.withLogR_cfg (x : List LogRec) : (s.withLogR x).cfg = s.cfg := rfl
@[simp] theorem State.withLogR_cntS (x : List LogRec) : (s.withLogR x).cntS = s.cntS := rfl
@[simp] theorem State.withLogR_cntR (x : List LogRec) : (s.withLogR x).cntR = s.cntR := rfl
@[simp] theorem State.withLogR_chanSR (x : List LogRec) : (s.withLogR x).chanSR = s.chanSR := rfl
@[simp] theorem State.withLogR_chanRS (x : List LogRec) : (s.withLogR x).chanRS = s.chanRS := rfl
@[simp] theorem State.withLogR_src (x : List LogRec) : (s.withLogR x).src = s.src := rfl
@[simp] theorem State.withLogR_sink (x : List LogRec) : (s.withLogR x).sink = s.sink := rfl
@[simp] theorem State.withLogR_logS (x : List LogRec) : (s.withLogR x).logS = s.logS := rfl
@[simp] theorem State.withLogR_logR (x : List LogRec) : (s.withLogR x).logR = x := rfl
@[simp] theorem State.withLogR_sumS (x : List LogRec) : (s.withLogR x).sumS = s.sumS := rfl
@[simp] theorem State.withLogR_sumR (x : List LogRec) : (s.withLogR x).sumR = s.sumR := rfl
@[simp] theorem State.withLogR_now (x : List LogRec) : (s.withLogR x).now = s.now := rfl
@[simp] theorem State.withLogR_result (x : List LogRec) : (s.withLogR x).result = s.result := rfl
@[simp] theorem State.withLogR_env (x : List LogRec) : (s.withLogR x).env = s.env := rfl

@[simp] theorem State.withSumS_snd (x : List CntS) : (s.withSumS x).snd = s.snd := rfl
@[simp] theorem State.withSumS_rcv (x : List CntS) : (s.withSumS x).rcv = s.rcv := rfl
@[simp] theorem State.withSumS_pld (x : List CntS) : (s.withSumS x).pld = s.pld := rfl
@[simp] theorem State.withSumS_cfg (x : List CntS) : (s.withSumS x).cfg = s.cfg := rfl
@[simp] theorem State.withSumS_cntS (x : List CntS) : (s.withSumS x).cntS = s.cntS := rfl
@[simp] theorem State.withSumS_cntR (x : List CntS) : (s.withSumS x).cntR = s.cntR := rfl
@[simp] theorem State.withSumS_chanSR (x : List CntS) : (s.withSumS x).chanSR = s.chanSR := rfl
@[simp] theorem State.withSumS_chanRS (x : List CntS) : (s.withSumS x).chanRS = s.chanRS := rfl
@[simp] theorem State.withSumS_src (x : List CntS) : (s.withSumS x).src = s.src := rfl
@[simp] theorem State.withSumS_sink (x : List CntS) : (s.withSumS x).sink = s.sink := rfl
@[simp] theorem State.withSumS_logS (x : List CntS) : (s.withSumS x).logS = s.logS := rfl
@[simp] theorem State.withSumS_logR (x : List CntS) : (s.withSumS x).logR = s.logR := rfl
@[simp] theorem State.withSumS_sumS (x : List CntS) : (s.withSumS x).sumS = x := rfl
@[simp] theorem State.withSumS_sumR (x : List CntS) : (s.withSumS x).sumR = s.sumR := rfl
@[simp] theorem State.withSumS_now (x : List CntS) : (s.withSumS x).now = s.now := rfl
@[simp] theorem State.withSumS_result (x : List CntS) : (s.withSumS x).result = s.result := rfl
@[simp] theorem State.withSumS_env (x : List CntS) : (s.withSumS x).env = s.env := rfl

@[simp] theorem State.withSumR_snd (x : List CntR) : (s.withSumR x).snd = s.snd := rfl
@[simp] theorem State.withSumR_rcv (x : List CntR) : (s.withSumR x).rcv = s.rcv := rfl
@[simp] theorem State.withSumR_pld (x : List CntR) : (s.withSumR x).pld = s.pld := rfl
@[simp] theorem State.withSumR_cfg (x : List CntR) : (s.withSumR x).cfg = s.cfg := rfl
@[simp] theorem State.withSumR_cntS (x : List CntR) : (s.withSumR x).cntS = s.cntS := rfl
@[simp] theorem State.withSumR_cntR (x : List CntR) : (s.withSumR x).cntR = s.cntR := rfl
@[simp] theorem State.withSumR_chanSR (x : List CntR) : (s.withSumR x).chanSR = s.chanSR := rfl
@[simp] theorem State.withSumR_chanRS (x : List CntR) : (s.withSumR x).chanRS = s.chanRS := rfl
@[simp] theorem State.withSumR_src (x : List CntR) : (s.withSumR x).src = s.src := rfl
@[simp] theorem State.withSumR_sink (x : List CntR) : (s.withSumR x).sink = s.sink := rfl
@[simp] theorem State.withSumR_logS (x : List CntR) : (s.withSumR x).logS = s.logS := rfl
@[simp] theorem State.withSumR_logR (x : List CntR) : (s.withSumR x).logR = s.logR := rfl
@[simp] theorem State.withSumR_sumS (x : List CntR) : (s.withSumR x).sumS = s.sumS := rfl
@[simp] theorem State.withSumR_sumR (x : List CntR) : (s.withSumR x).sumR = x := rfl
@[simp] theorem State.withSumR_now (x : List CntR) : (s.withSumR x).now = s.now := rfl
@[simp] theorem State.withSumR_result (x : List CntR) : (s.withSumR x).result = s.result := rfl
@[simp] theorem State.withSumR_env (x : List CntR) : (s.withSumR x).env = s.env := rfl

@[simp] theorem State.withNow_snd (x : Time) : (s.withNow x).snd = s.snd := rfl
@[simp] theorem State.withNow_rcv (x : Time) : (s.withNow x).rcv = s.rcv := rfl
@[simp] theorem State.withNow_pld (x : Time) : (s.withNow x).pld = s.pld := rfl
@[simp] theorem State.withNow_cfg (x : Time) : (s.withNow x).cfg = s.cfg := rfl
@[simp] theorem State.withNow_cntS (x : Time) : (s.withNow x).cntS = s.cntS := rfl
@[simp] theorem State.withNow_cntR (x : Time) : (s.withNow x).cntR = s.cntR := rfl
@[simp] theorem State.withNow_chanSR (x : Time) : (s.withNow x).chanSR = s.chanSR := rfl
@[simp] theorem State.withNow_chanRS (x : Time) : (s.withNow x).chanRS = s.chanRS := rfl
@[simp] theorem State.withNow_src (x : Time) : (s.withNow x).src = s.src := rfl
@[simp] theorem State.withNow_sink (x : Time) : (s.withNow x).sink = s.sink := rfl
@[simp] theorem State.withNow_logS (x : Time) : (s.withNow x).logS = s.logS := rfl
@[simp] theorem State.withNow_logR (x : Time) : (s.withNow x).logR = s.logR := rfl
@[simp] theorem State.withNow_sumS (x : Time) : (s.withNow x).sumS = s.sumS := rfl
@[simp] theorem State.withNow_sumR (x : Time) : (s.withNow x).sumR = s.sumR := rfl
@[simp] theorem State.withNow_now (x : Time) : (s.withNow x).now = x := rfl
@[simp] theorem State.withNow_result (x : Time) : (s.withNow x).result = s.result := rfl
@[simp] theorem State.withNow_env (x : Time) : (s.withNow x).env = s.env := rfl

@[simp] theorem State.withResult_snd (x : Result) : (s.withResult x).snd = s.snd := rfl
@[simp] theorem State.withResult_rcv (x : Result) : (s.withResult x).rcv = s.rcv := rfl
@[simp] theorem State.withResult_pld (x : Result) : (s.withResult x).pld = s.pld := rfl
@[simp] theorem State.withResult_cfg (x : Result) : (s.withResult x).cfg = s.cfg := rfl
@[simp] theorem State.withResult_cntS (x : Result) : (s.withResult x).cntS = s.cntS := rfl
@[simp] theorem State.withResult_cntR (x : Result) : (s.withResult x).cntR = s.cntR := rfl
@[simp] theorem State.withResult_chanSR (x : Result) : (s.withResult x).chanSR = s.chanSR := rfl
@[simp] theorem State.withResult_chanRS (x : Result) : (s.withResult x).chanRS = s.chanRS := rfl
@[simp] theorem State.withResult_src (x : Result) : (s.withResult x).src = s.src := rfl
@[simp] theorem State.withResult_sink (x : Result) : (s.withResult x).sink = s.sink := rfl
@[simp] theorem State.withResult_logS (x : Result) : (s.withResult x).logS = s.logS := rfl
@[simp] theorem State.withResult_logR (x : Result) : (s.withResult x).logR = s.logR := rfl
@[simp] theorem State.withResult_sumS (x : Result) : (s.withResult x).sumS = s.sumS := rfl
@[simp] theorem State.withResult_sumR (x : Result) : (s.withResult x).sumR = s.sumR := rfl
@[simp] theorem State.withResult_now (x : Result) : (s.withResult x).now = s.now := rfl
@[simp] theorem State.withResult_result (x : Result) : (s.withResult x).result = x := rfl
@[simp] theorem State.withResult_env (x : Result) : (s.withResult x).env = s.env := rfl

@[simp] theorem State.withEnv_snd (x : Env) : (s.withEnv x).snd = s.snd := rfl
@[simp] theorem State.withEnv_rcv (x : Env) : (s.withEnv x).rcv = s.rcv := rfl
@[simp] theorem State.withEnv_pld (x : Env) : (s.withEnv x).pld = s.pld := rfl
@[simp] theorem State.withEnv_cfg (x : Env) : (s.withEnv x).cfg = s.cfg := rfl
@[simp] theorem State.withEnv_cntS (x : Env) : (s.withEnv x).cntS = s.cntS := rfl
@[simp] theorem State.withEnv_cntR (x : Env) : (s.withEnv x).cntR = s.cntR := rfl
@[simp] theorem State.withEnv_chanSR (x : Env) : (s.withEnv x).chanSR = s.chanSR := rfl
@[simp] theorem State.withEnv_chanRS (x : Env) : (s.withEnv x).chanRS = s.chanRS := rfl
@[simp] theorem State.withEnv_src (x : Env) : (s.withEnv x).src = s.src := rfl
@[simp] theorem State.withEnv_sink (x : Env) : (s.withEnv x).sink = s.sink := rfl
@[simp] theorem State.withEnv_logS (x : Env) : (s.withEnv x).logS = s.logS := rfl
@[simp] theorem State.withEnv_logR (x : Env) : (s.withEnv x).logR = s.logR := rfl
@[simp] theorem State.withEnv_sumS (x : Env) : (s.withEnv x).sumS = s.sumS := rfl
@[simp] theorem State.withEnv_sumR (x : Env) : (s.withEnv x).sumR = s.sumR := rfl
@[simp] theorem State.withEnv_now (x : Env) : (s.withEnv x).now = s.now := rfl
@[simp] theorem State.withEnv_result (x : Env) : (s.withEnv x).result = s.result := rfl
@[simp] theorem State.withEnv_env (x : Env) : (s.withEnv x).env = x := rfl

end Sys2Proof.Machine
end

