-- ==== Sys2Proof/Laws/Ops.lean ====
section
/-! SUPPORT. What the shared operations can do: the fields each leaves alone, and the canonical forms the
memory and table operations keep. -/

namespace Sys2Proof.Machine

open Sys2Proof

section
variable (f b : Bytes) (dest : Addr) (retx : Bool) (ty : FrameType) (r : LogRec) (m : Pending) (n : Nat) (s : State)

@[simp] theorem logSnd_snd : (logSnd r s).snd = s.snd := rfl
@[simp] theorem logSnd_rcv : (logSnd r s).rcv = s.rcv := rfl
@[simp] theorem logSnd_pld : (logSnd r s).pld = s.pld := rfl
@[simp] theorem logSnd_cfg : (logSnd r s).cfg = s.cfg := rfl
@[simp] theorem logSnd_cntS : (logSnd r s).cntS = s.cntS := rfl
@[simp] theorem logSnd_cntR : (logSnd r s).cntR = s.cntR := rfl
@[simp] theorem logSnd_chanSR : (logSnd r s).chanSR = s.chanSR := rfl
@[simp] theorem logSnd_chanRS : (logSnd r s).chanRS = s.chanRS := rfl
@[simp] theorem logSnd_src : (logSnd r s).src = s.src := rfl
@[simp] theorem logSnd_sink : (logSnd r s).sink = s.sink := rfl
@[simp] theorem logSnd_logR : (logSnd r s).logR = s.logR := rfl
@[simp] theorem logSnd_sumS : (logSnd r s).sumS = s.sumS := rfl
@[simp] theorem logSnd_sumR : (logSnd r s).sumR = s.sumR := rfl
@[simp] theorem logSnd_now : (logSnd r s).now = s.now := rfl
@[simp] theorem logSnd_result : (logSnd r s).result = s.result := rfl
@[simp] theorem logSnd_env : (logSnd r s).env = s.env := rfl

@[simp] theorem logSnd_logS : (logSnd r s).logS = s.logS ++ [r] := rfl

@[simp] theorem logRcv_snd : (logRcv r s).snd = s.snd := rfl
@[simp] theorem logRcv_rcv : (logRcv r s).rcv = s.rcv := rfl
@[simp] theorem logRcv_pld : (logRcv r s).pld = s.pld := rfl
@[simp] theorem logRcv_cfg : (logRcv r s).cfg = s.cfg := rfl
@[simp] theorem logRcv_cntS : (logRcv r s).cntS = s.cntS := rfl
@[simp] theorem logRcv_cntR : (logRcv r s).cntR = s.cntR := rfl
@[simp] theorem logRcv_chanSR : (logRcv r s).chanSR = s.chanSR := rfl
@[simp] theorem logRcv_chanRS : (logRcv r s).chanRS = s.chanRS := rfl
@[simp] theorem logRcv_src : (logRcv r s).src = s.src := rfl
@[simp] theorem logRcv_sink : (logRcv r s).sink = s.sink := rfl
@[simp] theorem logRcv_logS : (logRcv r s).logS = s.logS := rfl
@[simp] theorem logRcv_sumS : (logRcv r s).sumS = s.sumS := rfl
@[simp] theorem logRcv_sumR : (logRcv r s).sumR = s.sumR := rfl
@[simp] theorem logRcv_now : (logRcv r s).now = s.now := rfl
@[simp] theorem logRcv_result : (logRcv r s).result = s.result := rfl
@[simp] theorem logRcv_env : (logRcv r s).env = s.env := rfl

@[simp] theorem logRcv_logR : (logRcv r s).logR = s.logR ++ [r] := rfl

@[simp] theorem skipDraws_snd : (skipDraws n s).snd = s.snd := rfl
@[simp] theorem skipDraws_rcv : (skipDraws n s).rcv = s.rcv := rfl
@[simp] theorem skipDraws_pld : (skipDraws n s).pld = s.pld := rfl
@[simp] theorem skipDraws_cfg : (skipDraws n s).cfg = s.cfg := rfl
@[simp] theorem skipDraws_cntS : (skipDraws n s).cntS = s.cntS := rfl
@[simp] theorem skipDraws_cntR : (skipDraws n s).cntR = s.cntR := rfl
@[simp] theorem skipDraws_chanSR : (skipDraws n s).chanSR = s.chanSR := rfl
@[simp] theorem skipDraws_chanRS : (skipDraws n s).chanRS = s.chanRS := rfl
@[simp] theorem skipDraws_src : (skipDraws n s).src = s.src := rfl
@[simp] theorem skipDraws_sink : (skipDraws n s).sink = s.sink := rfl
@[simp] theorem skipDraws_logS : (skipDraws n s).logS = s.logS := rfl
@[simp] theorem skipDraws_logR : (skipDraws n s).logR = s.logR := rfl
@[simp] theorem skipDraws_sumS : (skipDraws n s).sumS = s.sumS := rfl
@[simp] theorem skipDraws_sumR : (skipDraws n s).sumR = s.sumR := rfl
@[simp] theorem skipDraws_now : (skipDraws n s).now = s.now := rfl
@[simp] theorem skipDraws_result : (skipDraws n s).result = s.result := rfl

@[simp] theorem skipDelay_snd : (skipDelay s).snd = s.snd := rfl
@[simp] theorem skipDelay_rcv : (skipDelay s).rcv = s.rcv := rfl
@[simp] theorem skipDelay_pld : (skipDelay s).pld = s.pld := rfl
@[simp] theorem skipDelay_cfg : (skipDelay s).cfg = s.cfg := rfl
@[simp] theorem skipDelay_cntS : (skipDelay s).cntS = s.cntS := rfl
@[simp] theorem skipDelay_cntR : (skipDelay s).cntR = s.cntR := rfl
@[simp] theorem skipDelay_chanSR : (skipDelay s).chanSR = s.chanSR := rfl
@[simp] theorem skipDelay_chanRS : (skipDelay s).chanRS = s.chanRS := rfl
@[simp] theorem skipDelay_src : (skipDelay s).src = s.src := rfl
@[simp] theorem skipDelay_sink : (skipDelay s).sink = s.sink := rfl
@[simp] theorem skipDelay_logS : (skipDelay s).logS = s.logS := rfl
@[simp] theorem skipDelay_logR : (skipDelay s).logR = s.logR := rfl
@[simp] theorem skipDelay_sumS : (skipDelay s).sumS = s.sumS := rfl
@[simp] theorem skipDelay_sumR : (skipDelay s).sumR = s.sumR := rfl
@[simp] theorem skipDelay_now : (skipDelay s).now = s.now := rfl
@[simp] theorem skipDelay_result : (skipDelay s).result = s.result := rfl

@[simp] theorem chanPut_snd (d : Dir) (l : List Bytes) : (chanPut d l s).snd = s.snd := by cases d <;> rfl
@[simp] theorem chanPut_rcv (d : Dir) (l : List Bytes) : (chanPut d l s).rcv = s.rcv := by cases d <;> rfl
@[simp] theorem chanPut_pld (d : Dir) (l : List Bytes) : (chanPut d l s).pld = s.pld := by cases d <;> rfl
@[simp] theorem chanPut_cfg (d : Dir) (l : List Bytes) : (chanPut d l s).cfg = s.cfg := by cases d <;> rfl
@[simp] theorem chanPut_cntS (d : Dir) (l : List Bytes) : (chanPut d l s).cntS = s.cntS := by cases d <;> rfl
@[simp] theorem chanPut_cntR (d : Dir) (l : List Bytes) : (chanPut d l s).cntR = s.cntR := by cases d <;> rfl
@[simp] theorem chanPut_src (d : Dir) (l : List Bytes) : (chanPut d l s).src = s.src := by cases d <;> rfl
@[simp] theorem chanPut_sink (d : Dir) (l : List Bytes) : (chanPut d l s).sink = s.sink := by cases d <;> rfl
@[simp] theorem chanPut_logS (d : Dir) (l : List Bytes) : (chanPut d l s).logS = s.logS := by cases d <;> rfl
@[simp] theorem chanPut_logR (d : Dir) (l : List Bytes) : (chanPut d l s).logR = s.logR := by cases d <;> rfl
@[simp] theorem chanPut_sumS (d : Dir) (l : List Bytes) : (chanPut d l s).sumS = s.sumS := by cases d <;> rfl
@[simp] theorem chanPut_sumR (d : Dir) (l : List Bytes) : (chanPut d l s).sumR = s.sumR := by cases d <;> rfl
@[simp] theorem chanPut_now (d : Dir) (l : List Bytes) : (chanPut d l s).now = s.now := by cases d <;> rfl
@[simp] theorem chanPut_result (d : Dir) (l : List Bytes) : (chanPut d l s).result = s.result := by cases d <;> rfl
@[simp] theorem chanPut_env (d : Dir) (l : List Bytes) : (chanPut d l s).env = s.env := by cases d <;> rfl

@[simp] theorem chanPut_sr_chanSR (l : List Bytes) : (chanPut .sr l s).chanSR = l := rfl
@[simp] theorem chanPut_sr_chanRS (l : List Bytes) : (chanPut .sr l s).chanRS = s.chanRS := rfl
@[simp] theorem chanPut_rs_chanRS (l : List Bytes) : (chanPut .rs l s).chanRS = l := rfl
@[simp] theorem chanPut_rs_chanSR (l : List Bytes) : (chanPut .rs l s).chanSR = s.chanSR := rfl

@[simp] theorem chanSend_snd (d : Dir) : (chanSend d b s).snd = s.snd := by simp [chanSend]
@[simp] theorem chanSend_rcv (d : Dir) : (chanSend d b s).rcv = s.rcv := by simp [chanSend]
@[simp] theorem chanSend_pld (d : Dir) : (chanSend d b s).pld = s.pld := by simp [chanSend]
@[simp] theorem chanSend_cfg (d : Dir) : (chanSend d b s).cfg = s.cfg := by simp [chanSend]
@[simp] theorem chanSend_cntS (d : Dir) : (chanSend d b s).cntS = s.cntS := by simp [chanSend]
@[simp] theorem chanSend_cntR (d : Dir) : (chanSend d b s).cntR = s.cntR := by simp [chanSend]
@[simp] theorem chanSend_src (d : Dir) : (chanSend d b s).src = s.src := by simp [chanSend]
@[simp] theorem chanSend_sink (d : Dir) : (chanSend d b s).sink = s.sink := by simp [chanSend]
@[simp] theorem chanSend_logS (d : Dir) : (chanSend d b s).logS = s.logS := by simp [chanSend]
@[simp] theorem chanSend_logR (d : Dir) : (chanSend d b s).logR = s.logR := by simp [chanSend]
@[simp] theorem chanSend_sumS (d : Dir) : (chanSend d b s).sumS = s.sumS := by simp [chanSend]
@[simp] theorem chanSend_sumR (d : Dir) : (chanSend d b s).sumR = s.sumR := by simp [chanSend]
@[simp] theorem chanSend_now (d : Dir) : (chanSend d b s).now = s.now := by simp [chanSend]
@[simp] theorem chanSend_result (d : Dir) : (chanSend d b s).result = s.result := by simp [chanSend]
@[simp] theorem chanSend_env (d : Dir) : (chanSend d b s).env = s.env := by simp [chanSend]

@[simp] theorem chanSend_sr_chanSR : (chanSend .sr b s).chanSR = s.chanSR ++ [b] := rfl
@[simp] theorem chanSend_sr_chanRS : (chanSend .sr b s).chanRS = s.chanRS := rfl
@[simp] theorem chanSend_rs_chanRS : (chanSend .rs b s).chanRS = s.chanRS ++ [b] := rfl
@[simp] theorem chanSend_rs_chanSR : (chanSend .rs b s).chanSR = s.chanSR := rfl

@[simp] theorem xmit_snd : (xmit f dest s).snd = s.snd := by unfold xmit; split <;> simp
@[simp] theorem xmit_rcv : (xmit f dest s).rcv = s.rcv := by unfold xmit; split <;> simp
@[simp] theorem xmit_pld : (xmit f dest s).pld = s.pld := by unfold xmit; split <;> simp
@[simp] theorem xmit_cfg : (xmit f dest s).cfg = s.cfg := by unfold xmit; split <;> simp
@[simp] theorem xmit_cntS : (xmit f dest s).cntS = s.cntS := by unfold xmit; split <;> simp
@[simp] theorem xmit_cntR : (xmit f dest s).cntR = s.cntR := by unfold xmit; split <;> simp
@[simp] theorem xmit_chanRS : (xmit f dest s).chanRS = s.chanRS := by unfold xmit; split <;> simp
@[simp] theorem xmit_src : (xmit f dest s).src = s.src := by unfold xmit; split <;> simp
@[simp] theorem xmit_sink : (xmit f dest s).sink = s.sink := by unfold xmit; split <;> simp
@[simp] theorem xmit_logS : (xmit f dest s).logS = s.logS := by unfold xmit; split <;> simp
@[simp] theorem xmit_logR : (xmit f dest s).logR = s.logR := by unfold xmit; split <;> simp
@[simp] theorem xmit_sumS : (xmit f dest s).sumS = s.sumS := by unfold xmit; split <;> simp
@[simp] theorem xmit_sumR : (xmit f dest s).sumR = s.sumR := by unfold xmit; split <;> simp
@[simp] theorem xmit_now : (xmit f dest s).now = s.now := by unfold xmit; split <;> simp
@[simp] theorem xmit_result : (xmit f dest s).result = s.result := by unfold xmit; split <;> simp
@[simp] theorem xmit_env : (xmit f dest s).env = s.env := by unfold xmit; split <;> simp

theorem xmit_chanSR_open (h : s.snd.chanOpen = true) : (xmit f dest s).chanSR = s.chanSR ++ [f] := by
  simp [xmit, h]

theorem xmit_closed (h : s.snd.chanOpen = false) : xmit f dest s = s := by simp [xmit, h]

@[simp] theorem sinkAppend_snd : (sinkAppend b s).snd = s.snd := by unfold sinkAppend; split <;> simp
@[simp] theorem sinkAppend_rcv : (sinkAppend b s).rcv = s.rcv := by unfold sinkAppend; split <;> simp
@[simp] theorem sinkAppend_pld : (sinkAppend b s).pld = s.pld := by unfold sinkAppend; split <;> simp
@[simp] theorem sinkAppend_cfg : (sinkAppend b s).cfg = s.cfg := by unfold sinkAppend; split <;> simp
@[simp] theorem sinkAppend_cntS : (sinkAppend b s).cntS = s.cntS := by unfold sinkAppend; split <;> simp
@[simp] theorem sinkAppend_cntR : (sinkAppend b s).cntR = s.cntR := by unfold sinkAppend; split <;> simp
@[simp] theorem sinkAppend_chanSR : (sinkAppend b s).chanSR = s.chanSR := by unfold sinkAppend; split <;> simp
@[simp] theorem sinkAppend_chanRS : (sinkAppend b s).chanRS = s.chanRS := by unfold sinkAppend; split <;> simp
@[simp] theorem sinkAppend_src : (sinkAppend b s).src = s.src := by unfold sinkAppend; split <;> simp
@[simp] theorem sinkAppend_logS : (sinkAppend b s).logS = s.logS := by unfold sinkAppend; split <;> simp
@[simp] theorem sinkAppend_logR : (sinkAppend b s).logR = s.logR := by unfold sinkAppend; split <;> simp
@[simp] theorem sinkAppend_sumS : (sinkAppend b s).sumS = s.sumS := by unfold sinkAppend; split <;> simp
@[simp] theorem sinkAppend_sumR : (sinkAppend b s).sumR = s.sumR := by unfold sinkAppend; split <;> simp
@[simp] theorem sinkAppend_now : (sinkAppend b s).now = s.now := by unfold sinkAppend; split <;> simp
@[simp] theorem sinkAppend_result : (sinkAppend b s).result = s.result := by unfold sinkAppend; split <;> simp
@[simp] theorem sinkAppend_env : (sinkAppend b s).env = s.env := by unfold sinkAppend; split <;> simp

@[simp] theorem pldDrop_snd : (pldDrop f retx s).snd = s.snd := by simp [pldDrop]
@[simp] theorem pldDrop_rcv : (pldDrop f retx s).rcv = s.rcv := by simp [pldDrop]
@[simp] theorem pldDrop_pld : (pldDrop f retx s).pld = s.pld := by simp [pldDrop]
@[simp] theorem pldDrop_cfg : (pldDrop f retx s).cfg = s.cfg := by simp [pldDrop]
@[simp] theorem pldDrop_cntR : (pldDrop f retx s).cntR = s.cntR := by simp [pldDrop]
@[simp] theorem pldDrop_chanSR : (pldDrop f retx s).chanSR = s.chanSR := by simp [pldDrop]
@[simp] theorem pldDrop_chanRS : (pldDrop f retx s).chanRS = s.chanRS := by simp [pldDrop]
@[simp] theorem pldDrop_src : (pldDrop f retx s).src = s.src := by simp [pldDrop]
@[simp] theorem pldDrop_sink : (pldDrop f retx s).sink = s.sink := by simp [pldDrop]
@[simp] theorem pldDrop_logR : (pldDrop f retx s).logR = s.logR := by simp [pldDrop]
@[simp] theorem pldDrop_sumS : (pldDrop f retx s).sumS = s.sumS := by simp [pldDrop]
@[simp] theorem pldDrop_sumR : (pldDrop f retx s).sumR = s.sumR := by simp [pldDrop]
@[simp] theorem pldDrop_now : (pldDrop f retx s).now = s.now := by simp [pldDrop]
@[simp] theorem pldDrop_result : (pldDrop f retx s).result = s.result := by simp [pldDrop]
@[simp] theorem pldDrop_env : (pldDrop f retx s).env = s.env := by simp [pldDrop]

@[simp] theorem pldDup_snd : (pldDup f dest retx s).snd = s.snd := by simp [pldDup]
@[simp] theorem pldDup_rcv : (pldDup f dest retx s).rcv = s.rcv := by simp [pldDup]
@[simp] theorem pldDup_pld : (pldDup f dest retx s).pld = s.pld := by simp [pldDup]
@[simp] theorem pldDup_cfg : (pldDup f dest retx s).cfg = s.cfg := by simp [pldDup]
@[simp] theorem pldDup_cntR : (pldDup f dest retx s).cntR = s.cntR := by simp [pldDup]
@[simp] theorem pldDup_chanRS : (pldDup f dest retx s).chanRS = s.chanRS := by simp [pldDup]
@[simp] theorem pldDup_src : (pldDup f dest retx s).src = s.src := by simp [pldDup]
@[simp] theorem pldDup_sink : (pldDup f dest retx s).sink = s.sink := by simp [pldDup]
@[simp] theorem pldDup_logR : (pldDup f dest retx s).logR = s.logR := by simp [pldDup]
@[simp] theorem pldDup_sumS : (pldDup f dest retx s).sumS = s.sumS := by simp [pldDup]
@[simp] theorem pldDup_sumR : (pldDup f dest retx s).sumR = s.sumR := by simp [pldDup]
@[simp] theorem pldDup_now : (pldDup f dest retx s).now = s.now := by simp [pldDup]
@[simp] theorem pldDup_result : (pldDup f dest retx s).result = s.result := by simp [pldDup]
@[simp] theorem pldDup_env : (pldDup f dest retx s).env = s.env := by simp [pldDup]

@[simp] theorem pldCorrupt_snd : (pldCorrupt f dest retx s).snd = s.snd := by simp [pldCorrupt]
@[simp] theorem pldCorrupt_rcv : (pldCorrupt f dest retx s).rcv = s.rcv := by simp [pldCorrupt]
@[simp] theorem pldCorrupt_pld : (pldCorrupt f dest retx s).pld = s.pld := by simp [pldCorrupt]
@[simp] theorem pldCorrupt_cfg : (pldCorrupt f dest retx s).cfg = s.cfg := by simp [pldCorrupt]
@[simp] theorem pldCorrupt_cntR : (pldCorrupt f dest retx s).cntR = s.cntR := by simp [pldCorrupt]
@[simp] theorem pldCorrupt_chanRS : (pldCorrupt f dest retx s).chanRS = s.chanRS := by simp [pldCorrupt]
@[simp] theorem pldCorrupt_src : (pldCorrupt f dest retx s).src = s.src := by simp [pldCorrupt]
@[simp] theorem pldCorrupt_sink : (pldCorrupt f dest retx s).sink = s.sink := by simp [pldCorrupt]
@[simp] theorem pldCorrupt_logR : (pldCorrupt f dest retx s).logR = s.logR := by simp [pldCorrupt]
@[simp] theorem pldCorrupt_sumS : (pldCorrupt f dest retx s).sumS = s.sumS := by simp [pldCorrupt]
@[simp] theorem pldCorrupt_sumR : (pldCorrupt f dest retx s).sumR = s.sumR := by simp [pldCorrupt]
@[simp] theorem pldCorrupt_now : (pldCorrupt f dest retx s).now = s.now := by simp [pldCorrupt]
@[simp] theorem pldCorrupt_result : (pldCorrupt f dest retx s).result = s.result := by simp [pldCorrupt]
@[simp] theorem pldCorrupt_env : (pldCorrupt f dest retx s).env = s.env := by simp [pldCorrupt]

@[simp] theorem pldHold_snd : (pldHold f dest retx s).snd = s.snd := by simp [pldHold]
@[simp] theorem pldHold_rcv : (pldHold f dest retx s).rcv = s.rcv := by simp [pldHold]
@[simp] theorem pldHold_cfg : (pldHold f dest retx s).cfg = s.cfg := by simp [pldHold]
@[simp] theorem pldHold_cntR : (pldHold f dest retx s).cntR = s.cntR := by simp [pldHold]
@[simp] theorem pldHold_chanSR : (pldHold f dest retx s).chanSR = s.chanSR := by simp [pldHold]
@[simp] theorem pldHold_chanRS : (pldHold f dest retx s).chanRS = s.chanRS := by simp [pldHold]
@[simp] theorem pldHold_src : (pldHold f dest retx s).src = s.src := by simp [pldHold]
@[simp] theorem pldHold_sink : (pldHold f dest retx s).sink = s.sink := by simp [pldHold]
@[simp] theorem pldHold_logR : (pldHold f dest retx s).logR = s.logR := by simp [pldHold]
@[simp] theorem pldHold_sumS : (pldHold f dest retx s).sumS = s.sumS := by simp [pldHold]
@[simp] theorem pldHold_sumR : (pldHold f dest retx s).sumR = s.sumR := by simp [pldHold]
@[simp] theorem pldHold_now : (pldHold f dest retx s).now = s.now := by simp [pldHold]
@[simp] theorem pldHold_result : (pldHold f dest retx s).result = s.result := by simp [pldHold]
@[simp] theorem pldHold_env : (pldHold f dest retx s).env = s.env := by simp [pldHold]

@[simp] theorem pldDelay_snd : (pldDelay f dest retx s).snd = s.snd := by simp [pldDelay]
@[simp] theorem pldDelay_rcv : (pldDelay f dest retx s).rcv = s.rcv := by simp [pldDelay]
@[simp] theorem pldDelay_cfg : (pldDelay f dest retx s).cfg = s.cfg := by simp [pldDelay]
@[simp] theorem pldDelay_cntR : (pldDelay f dest retx s).cntR = s.cntR := by simp [pldDelay]
@[simp] theorem pldDelay_chanSR : (pldDelay f dest retx s).chanSR = s.chanSR := by simp [pldDelay]
@[simp] theorem pldDelay_chanRS : (pldDelay f dest retx s).chanRS = s.chanRS := by simp [pldDelay]
@[simp] theorem pldDelay_src : (pldDelay f dest retx s).src = s.src := by simp [pldDelay]
@[simp] theorem pldDelay_sink : (pldDelay f dest retx s).sink = s.sink := by simp [pldDelay]
@[simp] theorem pldDelay_logR : (pldDelay f dest retx s).logR = s.logR := by simp [pldDelay]
@[simp] theorem pldDelay_sumS : (pldDelay f dest retx s).sumS = s.sumS := by simp [pldDelay]
@[simp] theorem pldDelay_sumR : (pldDelay f dest retx s).sumR = s.sumR := by simp [pldDelay]
@[simp] theorem pldDelay_now : (pldDelay f dest retx s).now = s.now := by simp [pldDelay]
@[simp] theorem pldDelay_result : (pldDelay f dest retx s).result = s.result := by simp [pldDelay]

@[simp] theorem pldPass_snd : (pldPass f dest retx s).snd = s.snd := by simp [pldPass]
@[simp] theorem pldPass_rcv : (pldPass f dest retx s).rcv = s.rcv := by simp [pldPass]
@[simp] theorem pldPass_pld : (pldPass f dest retx s).pld = s.pld := by simp [pldPass]
@[simp] theorem pldPass_cfg : (pldPass f dest retx s).cfg = s.cfg := by simp [pldPass]
@[simp] theorem pldPass_cntS : (pldPass f dest retx s).cntS = s.cntS := by simp [pldPass]
@[simp] theorem pldPass_cntR : (pldPass f dest retx s).cntR = s.cntR := by simp [pldPass]
@[simp] theorem pldPass_chanRS : (pldPass f dest retx s).chanRS = s.chanRS := by simp [pldPass]
@[simp] theorem pldPass_src : (pldPass f dest retx s).src = s.src := by simp [pldPass]
@[simp] theorem pldPass_sink : (pldPass f dest retx s).sink = s.sink := by simp [pldPass]
@[simp] theorem pldPass_logR : (pldPass f dest retx s).logR = s.logR := by simp [pldPass]
@[simp] theorem pldPass_sumS : (pldPass f dest retx s).sumS = s.sumS := by simp [pldPass]
@[simp] theorem pldPass_sumR : (pldPass f dest retx s).sumR = s.sumR := by simp [pldPass]
@[simp] theorem pldPass_now : (pldPass f dest retx s).now = s.now := by simp [pldPass]
@[simp] theorem pldPass_result : (pldPass f dest retx s).result = s.result := by simp [pldPass]
@[simp] theorem pldPass_env : (pldPass f dest retx s).env = s.env := by simp [pldPass]

@[simp] theorem pldBypass_snd : (pldBypass f dest s).snd = s.snd := by simp [pldBypass]
@[simp] theorem pldBypass_rcv : (pldBypass f dest s).rcv = s.rcv := by simp [pldBypass]
@[simp] theorem pldBypass_pld : (pldBypass f dest s).pld = s.pld := by simp [pldBypass]
@[simp] theorem pldBypass_cfg : (pldBypass f dest s).cfg = s.cfg := by simp [pldBypass]
@[simp] theorem pldBypass_cntS : (pldBypass f dest s).cntS = s.cntS := by simp [pldBypass]
@[simp] theorem pldBypass_cntR : (pldBypass f dest s).cntR = s.cntR := by simp [pldBypass]
@[simp] theorem pldBypass_chanRS : (pldBypass f dest s).chanRS = s.chanRS := by simp [pldBypass]
@[simp] theorem pldBypass_src : (pldBypass f dest s).src = s.src := by simp [pldBypass]
@[simp] theorem pldBypass_sink : (pldBypass f dest s).sink = s.sink := by simp [pldBypass]
@[simp] theorem pldBypass_logR : (pldBypass f dest s).logR = s.logR := by simp [pldBypass]
@[simp] theorem pldBypass_sumS : (pldBypass f dest s).sumS = s.sumS := by simp [pldBypass]
@[simp] theorem pldBypass_sumR : (pldBypass f dest s).sumR = s.sumR := by simp [pldBypass]
@[simp] theorem pldBypass_now : (pldBypass f dest s).now = s.now := by simp [pldBypass]
@[simp] theorem pldBypass_result : (pldBypass f dest s).result = s.result := by simp [pldBypass]
@[simp] theorem pldBypass_env : (pldBypass f dest s).env = s.env := by simp [pldBypass]

@[simp] theorem tickHeld_snd : (tickHeld s).snd = s.snd := by unfold tickHeld; split <;> (try split) <;> simp
@[simp] theorem tickHeld_rcv : (tickHeld s).rcv = s.rcv := by unfold tickHeld; split <;> (try split) <;> simp
@[simp] theorem tickHeld_cfg : (tickHeld s).cfg = s.cfg := by unfold tickHeld; split <;> (try split) <;> simp
@[simp] theorem tickHeld_cntS : (tickHeld s).cntS = s.cntS := by unfold tickHeld; split <;> (try split) <;> simp
@[simp] theorem tickHeld_cntR : (tickHeld s).cntR = s.cntR := by unfold tickHeld; split <;> (try split) <;> simp
@[simp] theorem tickHeld_chanRS : (tickHeld s).chanRS = s.chanRS := by unfold tickHeld; split <;> (try split) <;> simp
@[simp] theorem tickHeld_src : (tickHeld s).src = s.src := by unfold tickHeld; split <;> (try split) <;> simp
@[simp] theorem tickHeld_sink : (tickHeld s).sink = s.sink := by unfold tickHeld; split <;> (try split) <;> simp
@[simp] theorem tickHeld_logR : (tickHeld s).logR = s.logR := by unfold tickHeld; split <;> (try split) <;> simp
@[simp] theorem tickHeld_sumS : (tickHeld s).sumS = s.sumS := by unfold tickHeld; split <;> (try split) <;> simp
@[simp] theorem tickHeld_sumR : (tickHeld s).sumR = s.sumR := by unfold tickHeld; split <;> (try split) <;> simp
@[simp] theorem tickHeld_now : (tickHeld s).now = s.now := by unfold tickHeld; split <;> (try split) <;> simp
@[simp] theorem tickHeld_result : (tickHeld s).result = s.result := by unfold tickHeld; split <;> (try split) <;> simp
@[simp] theorem tickHeld_env : (tickHeld s).env = s.env := by unfold tickHeld; split <;> (try split) <;> simp

@[simp] theorem pldProcess_snd : (pldProcess f dest retx s).snd = s.snd := by unfold pldProcess; split_ifs <;> simp
@[simp] theorem pldProcess_rcv : (pldProcess f dest retx s).rcv = s.rcv := by unfold pldProcess; split_ifs <;> simp
@[simp] theorem pldProcess_cfg : (pldProcess f dest retx s).cfg = s.cfg := by unfold pldProcess; split_ifs <;> simp
@[simp] theorem pldProcess_cntR : (pldProcess f dest retx s).cntR = s.cntR := by unfold pldProcess; split_ifs <;> simp
@[simp] theorem pldProcess_chanRS : (pldProcess f dest retx s).chanRS = s.chanRS := by unfold pldProcess; split_ifs <;> simp
@[simp] theorem pldProcess_src : (pldProcess f dest retx s).src = s.src := by unfold pldProcess; split_ifs <;> simp
@[simp] theorem pldProcess_sink : (pldProcess f dest retx s).sink = s.sink := by unfold pldProcess; split_ifs <;> simp
@[simp] theorem pldProcess_logR : (pldProcess f dest retx s).logR = s.logR := by unfold pldProcess; split_ifs <;> simp
@[simp] theorem pldProcess_sumS : (pldProcess f dest retx s).sumS = s.sumS := by unfold pldProcess; split_ifs <;> simp
@[simp] theorem pldProcess_sumR : (pldProcess f dest retx s).sumR = s.sumR := by unfold pldProcess; split_ifs <;> simp
@[simp] theorem pldProcess_now : (pldProcess f dest retx s).now = s.now := by unfold pldProcess; split_ifs <;> simp
@[simp] theorem pldProcess_result : (pldProcess f dest retx s).result = s.result := by unfold pldProcess; split_ifs <;> simp

@[simp] theorem pldSubmit_snd : (pldSubmit f ty dest retx s).snd = s.snd := by unfold pldSubmit; split <;> simp
@[simp] theorem pldSubmit_rcv : (pldSubmit f ty dest retx s).rcv = s.rcv := by unfold pldSubmit; split <;> simp
@[simp] theorem pldSubmit_cfg : (pldSubmit f ty dest retx s).cfg = s.cfg := by unfold pldSubmit; split <;> simp
@[simp] theorem pldSubmit_cntR : (pldSubmit f ty dest retx s).cntR = s.cntR := by unfold pldSubmit; split <;> simp
@[simp] theorem pldSubmit_chanRS : (pldSubmit f ty dest retx s).chanRS = s.chanRS := by unfold pldSubmit; split <;> simp
@[simp] theorem pldSubmit_src : (pldSubmit f ty dest retx s).src = s.src := by unfold pldSubmit; split <;> simp
@[simp] theorem pldSubmit_sink : (pldSubmit f ty dest retx s).sink = s.sink := by unfold pldSubmit; split <;> simp
@[simp] theorem pldSubmit_logR : (pldSubmit f ty dest retx s).logR = s.logR := by unfold pldSubmit; split <;> simp
@[simp] theorem pldSubmit_sumS : (pldSubmit f ty dest retx s).sumS = s.sumS := by unfold pldSubmit; split <;> simp
@[simp] theorem pldSubmit_sumR : (pldSubmit f ty dest retx s).sumR = s.sumR := by unfold pldSubmit; split <;> simp
@[simp] theorem pldSubmit_now : (pldSubmit f ty dest retx s).now = s.now := by unfold pldSubmit; split <;> simp
@[simp] theorem pldSubmit_result : (pldSubmit f ty dest retx s).result = s.result := by unfold pldSubmit; split <;> simp

@[simp] theorem dlyFire_snd : (dlyFire m s).snd = s.snd := by unfold dlyFire; dsimp only; split <;> simp [takeAnomaly]
@[simp] theorem dlyFire_rcv : (dlyFire m s).rcv = s.rcv := by unfold dlyFire; dsimp only; split <;> simp [takeAnomaly]
@[simp] theorem dlyFire_cfg : (dlyFire m s).cfg = s.cfg := by unfold dlyFire; dsimp only; split <;> simp [takeAnomaly]
@[simp] theorem dlyFire_cntS : (dlyFire m s).cntS = s.cntS := by unfold dlyFire; dsimp only; split <;> simp [takeAnomaly]
@[simp] theorem dlyFire_cntR : (dlyFire m s).cntR = s.cntR := by unfold dlyFire; dsimp only; split <;> simp [takeAnomaly]
@[simp] theorem dlyFire_chanRS : (dlyFire m s).chanRS = s.chanRS := by unfold dlyFire; dsimp only; split <;> simp [takeAnomaly]
@[simp] theorem dlyFire_src : (dlyFire m s).src = s.src := by unfold dlyFire; dsimp only; split <;> simp [takeAnomaly]
@[simp] theorem dlyFire_sink : (dlyFire m s).sink = s.sink := by unfold dlyFire; dsimp only; split <;> simp [takeAnomaly]
@[simp] theorem dlyFire_logR : (dlyFire m s).logR = s.logR := by unfold dlyFire; dsimp only; split <;> simp [takeAnomaly]
@[simp] theorem dlyFire_sumS : (dlyFire m s).sumS = s.sumS := by unfold dlyFire; dsimp only; split <;> simp [takeAnomaly]
@[simp] theorem dlyFire_sumR : (dlyFire m s).sumR = s.sumR := by unfold dlyFire; dsimp only; split <;> simp [takeAnomaly]
@[simp] theorem dlyFire_now : (dlyFire m s).now = s.now := by unfold dlyFire; dsimp only; split <;> simp [takeAnomaly]
@[simp] theorem dlyFire_result : (dlyFire m s).result = s.result := by unfold dlyFire; dsimp only; split <;> simp [takeAnomaly]
@[simp] theorem dlyFire_env : (dlyFire m s).env = s.env := by unfold dlyFire; dsimp only; split <;> simp [takeAnomaly]

@[simp] theorem pldProcess_segmentsSent : (pldProcess f dest retx s).cntS.segmentsSent = s.cntS.segmentsSent := by
  unfold pldProcess; split_ifs <;> simp [pldDrop, pldDup, pldCorrupt, pldHold, pldDelay]
@[simp] theorem pldSubmit_segmentsSent : (pldSubmit f ty dest retx s).cntS.segmentsSent = s.cntS.segmentsSent := by
  unfold pldSubmit; split <;> simp
@[simp] theorem pldProcess_retxTimeout : (pldProcess f dest retx s).cntS.retxTimeout = s.cntS.retxTimeout := by
  unfold pldProcess; split_ifs <;> simp [pldDrop, pldDup, pldCorrupt, pldHold, pldDelay]
@[simp] theorem pldSubmit_retxTimeout : (pldSubmit f ty dest retx s).cntS.retxTimeout = s.cntS.retxTimeout := by
  unfold pldSubmit; split <;> simp
@[simp] theorem pldProcess_retxFast : (pldProcess f dest retx s).cntS.retxFast = s.cntS.retxFast := by
  unfold pldProcess; split_ifs <;> simp [pldDrop, pldDup, pldCorrupt, pldHold, pldDelay]
@[simp] theorem pldSubmit_retxFast : (pldSubmit f ty dest retx s).cntS.retxFast = s.cntS.retxFast := by
  unfold pldSubmit; split <;> simp
@[simp] theorem pldProcess_dupAcks : (pldProcess f dest retx s).cntS.dupAcks = s.cntS.dupAcks := by
  unfold pldProcess; split_ifs <;> simp [pldDrop, pldDup, pldCorrupt, pldHold, pldDelay]
@[simp] theorem pldSubmit_dupAcks : (pldSubmit f ty dest retx s).cntS.dupAcks = s.cntS.dupAcks := by
  unfold pldSubmit; split <;> simp

/-- A frame outside the injector's scope is sent at once and logged, nothing else (R150, R161). -/
theorem pldSubmit_bypass (h1 : s.cfg.pldScope = .dataOnly) (h2 : ty ≠ .data) :
    pldSubmit f ty dest retx s = pldBypass f dest s := by
  simp [pldSubmit, h1, h2]

theorem takeAnomaly_corruption_snd (c : Cause) :
    takeAnomaly (.corruption .snd n c) s = logSnd ⟨.rcvbad c, s.now, none, none, n, none⟩ s := rfl

end

theorem unitDraw_range (u : Rat) : 0 ≤ unitDraw u ∧ unitDraw u < 1 := by
  unfold unitDraw
  split
  · assumption
  · constructor <;> norm_num

theorem drawAt_range (n : Nat) (s : State) : 0 ≤ drawAt n s ∧ drawAt n s < 1 := unitDraw_range _

theorem unitDraw_of_range (u : Rat) (h0 : 0 ≤ u) (h1 : u < 1) : unitDraw u = u := by
  simp [unitDraw, h0, h1]

theorem trial_zero (n : Nat) (s : State) : trial (drawAt n s) 0 = false := by
  simp [trial, (drawAt_range n s).1]

theorem trial_one (n : Nat) (s : State) : trial (drawAt n s) 1 = true := by
  simp [trial, (drawAt_range n s).2]

theorem delayAt_range (m : Time) (s : State) (hm : 0 ≤ m) : 0 ≤ delayAt m s ∧ delayAt m s ≤ m := by
  unfold delayAt
  exact ⟨le_max_left _ _, max_le hm (min_le_left _ _)⟩

/-! ### Memory -/

theorem memWfFrom_mono {lo lo' : Nat} (h : lo ≤ lo') : ∀ {m : Memory}, memWfFrom lo' m = true → memWfFrom lo m = true
  | [], _ => rfl
  | (a, b) :: m, hm => by
    simp only [memWfFrom, Bool.and_eq_true, decide_eq_true_eq] at hm ⊢
    exact ⟨⟨h.trans hm.1.1, hm.1.2⟩, hm.2⟩

theorem memOfBytes_wfFrom (bs : Bytes) (a : Nat) : memWfFrom a (memOfBytes a bs) = true := by
  induction bs generalizing a with
  | nil => rfl
  | cons b bs ih =>
    unfold memOfBytes
    split
    · exact memWfFrom_mono (Nat.le_succ a) (ih (a + 1))
    · rename_i hb
      simp [memWfFrom, hb, ih (a + 1)]

/-- The one memory operation that writes keeps the canonical form. -/
theorem memOfBytes_wf (bs : Bytes) : Memory.wf (memOfBytes 0 bs) = true := memOfBytes_wfFrom bs 0

theorem memRead_memOfBytes_below (bs : Bytes) (a k : Nat) (h : k < a) : memRead (memOfBytes a bs) k = 0x00#8 := by
  induction bs generalizing a with
  | nil => rfl
  | cons b bs ih =>
    unfold memOfBytes
    split
    · exact ih (a + 1) (by omega)
    · rw [memRead, if_neg (by omega)]
      exact ih (a + 1) (by omega)

/-- Reading the memory that holds a byte string gives the string's byte, and 00 past its end. -/
theorem memRead_memOfBytes (bs : Bytes) (a i : Nat) : memRead (memOfBytes a bs) (a + i) = bs.getD i 0x00#8 := by
  induction bs generalizing a i with
  | nil => rfl
  | cons b bs ih =>
    unfold memOfBytes
    cases i with
    | zero =>
      split
      · rename_i hb
        simpa [hb] using memRead_memOfBytes_below bs (a + 1) a (by omega)
      · simp [memRead]
    | succ i =>
      have e : a + (i + 1) = a + 1 + i := by omega
      split
      · rw [e]; simpa using ih (a + 1) i
      · rw [memRead, if_neg (by omega), e]; simpa using ih (a + 1) i

theorem memReadN_length (m : Memory) (o n : Nat) : (memReadN m o n).length = n := by simp [memReadN]

/-! ### Count tables -/

theorem countWfFrom_mono {lo lo' : Nat} (h : lo ≤ lo') :
    ∀ {m : CountMap}, countWfFrom lo' m = true → countWfFrom lo m = true
  | [], _ => rfl
  | (k, v) :: m, hm => by
    simp only [countWfFrom, Bool.and_eq_true, decide_eq_true_eq] at hm ⊢
    exact ⟨h.trans hm.1, hm.2⟩

theorem countSet_wfFrom (m : CountMap) (lo a v : Nat) (hlo : lo ≤ a) (h : countWfFrom lo m = true) :
    countWfFrom lo (countSet m a v) = true := by
  induction m generalizing lo with
  | nil => simp [countSet, countWfFrom, hlo]
  | cons x m ih =>
    obtain ⟨k, n⟩ := x
    simp only [countWfFrom, Bool.and_eq_true, decide_eq_true_eq] at h
    unfold countSet
    split_ifs with h1 h2
    · simp only [countWfFrom, Bool.and_eq_true, decide_eq_true_eq]
      exact ⟨hlo, by omega, h.2⟩
    · subst h2
      simp [countWfFrom, h.1, h.2]
    · simp only [countWfFrom, Bool.and_eq_true, decide_eq_true_eq]
      exact ⟨h.1, ih (k + 1) (by omega) h.2⟩

/-- Writing a count keeps the canonical form. -/
theorem countSet_wf (m : CountMap) (a v : Nat) (h : countWf m = true) : countWf (countSet m a v) = true :=
  countSet_wfFrom m 0 a v (Nat.zero_le a) h

@[simp] theorem countGet_countSet_same (m : CountMap) (a v : Nat) : countGet (countSet m a v) a = v := by
  induction m with
  | nil => simp [countSet, countGet]
  | cons x m ih =>
    obtain ⟨k, n⟩ := x
    unfold countSet
    split_ifs with h1 h2
    · simp [countGet]
    · simp [countGet]
    · simp [countGet, h2, ih]

theorem countGet_countSet_other (m : CountMap) (a c v : Nat) (h : c ≠ a) :
    countGet (countSet m a v) c = countGet m c := by
  induction m with
  | nil => simp [countSet, countGet, Ne.symm h]
  | cons x m ih =>
    obtain ⟨k, n⟩ := x
    unfold countSet
    split_ifs with h1 h2
    · rw [countGet, if_neg (Ne.symm h)]
    · subst h2
      simp [countGet, Ne.symm h]
    · simp only [countGet, ih]

theorem countGet_of_wfFrom (m : CountMap) (lo a : Nat) (h : countWfFrom lo m = true) (ha : a < lo) :
    countGet m a = 0 := by
  induction m generalizing lo with
  | nil => rfl
  | cons x m ih =>
    obtain ⟨k, n⟩ := x
    simp only [countWfFrom, Bool.and_eq_true, decide_eq_true_eq] at h
    rw [countGet, if_neg (by omega)]
    exact ih (k + 1) h.2 (by omega)

/-- A sum over a table after one count is written: the old term leaves, the new one joins. -/
theorem countSum_countSet (g : Nat → Nat) (hg : g 0 = 0) (m : CountMap) (lo a v : Nat)
    (h : countWfFrom lo m = true) :
    countSum g (countSet m a v) + g (countGet m a) = countSum g m + g v := by
  induction m generalizing lo with
  | nil => simp [countSet, countSum, countGet, hg]
  | cons x m ih =>
    obtain ⟨k, n⟩ := x
    simp only [countWfFrom, Bool.and_eq_true, decide_eq_true_eq] at h
    unfold countSet
    split_ifs with h1 h2
    · have h0 : countGet ((k, n) :: m) a = 0 := by
        rw [countGet, if_neg (by omega)]
        exact countGet_of_wfFrom m (k + 1) a h.2 (by omega)
      simp only [countSum, h0, hg]
      omega
    · subst h2
      simp only [countSum, countGet, if_true]
      omega
    · have := ih (k + 1) h.2
      simp only [countSum, countGet, if_neg h2]
      omega

/-! ### Log headers -/

/-- A string with a whole header is read as it is (R284). -/
theorem logHeader_of_le (f : Bytes) (h : 32 ≤ f.length) : logHeader f = f := by
  simp [logHeader, Nat.sub_eq_zero_of_le h]

/-- A log record reads a whole header whatever the string (entry 35). -/
theorem le_logHeader_length (f : Bytes) : 32 ≤ (logHeader f).length := by
  simp only [logHeader, List.length_append, List.length_map, List.length_range, Config.headerLen]
  omega

end Sys2Proof.Machine
end

