-- ==== Sys2Proof/Laws/Engines.lean ====
section
/-! SUPPORT. What the engines' rules leave alone: one lemma per rule and register group (R42), so that a proof
about one role never unfolds the other's rules. -/

namespace Sys2Proof.Machine

open Sys2Proof

variable (s : State)

/-! ### Sender rules -/

@[simp] theorem skipDraws_sched (n : Nat) : (skipDraws n s).env.sched = s.env.sched := rfl
@[simp] theorem skipDelay_sched : (skipDelay s).env.sched = s.env.sched := rfl
@[simp] theorem pldDrop_sched (f : Bytes) (r : Bool) : (pldDrop f r s).env.sched = s.env.sched := rfl
@[simp] theorem pldDup_sched (f : Bytes) (d : Addr) (r : Bool) : (pldDup f d r s).env.sched = s.env.sched := by simp [pldDup]
@[simp] theorem pldCorrupt_sched (f : Bytes) (d : Addr) (r : Bool) : (pldCorrupt f d r s).env.sched = s.env.sched := by simp [pldCorrupt]
@[simp] theorem pldHold_sched (f : Bytes) (d : Addr) (r : Bool) : (pldHold f d r s).env.sched = s.env.sched := rfl
@[simp] theorem pldDelay_sched (f : Bytes) (d : Addr) (r : Bool) : (pldDelay f d r s).env.sched = s.env.sched := rfl
@[simp] theorem pldPass_sched (f : Bytes) (d : Addr) (r : Bool) : (pldPass f d r s).env.sched = s.env.sched := by simp [pldPass]
@[simp] theorem tickHeld_sched : (tickHeld s).env.sched = s.env.sched := by unfold tickHeld; split <;> (try split_ifs) <;> simp
@[simp] theorem pldProcess_sched (f : Bytes) (d : Addr) (r : Bool) : (pldProcess f d r s).env.sched = s.env.sched := by unfold pldProcess; split_ifs <;> simp
@[simp] theorem pldBypass_sched (f : Bytes) (d : Addr) : (pldBypass f d s).env.sched = s.env.sched := by simp [pldBypass]
@[simp] theorem pldSubmit_sched (f : Bytes) (ty : FrameType) (d : Addr) (r : Bool) : (pldSubmit f ty d r s).env.sched = s.env.sched := by unfold pldSubmit; split_ifs <;> simp

@[simp] theorem rttUpdate_sched (x : Time) : (rttUpdate x s).env.sched = s.env.sched := rfl
@[simp] theorem rttUpdate_rcv (x : Time) : (rttUpdate x s).rcv = s.rcv := rfl
@[simp] theorem rttUpdate_cfg (x : Time) : (rttUpdate x s).cfg = s.cfg := rfl
@[simp] theorem rttUpdate_cntR (x : Time) : (rttUpdate x s).cntR = s.cntR := rfl
@[simp] theorem rttUpdate_src (x : Time) : (rttUpdate x s).src = s.src := rfl
@[simp] theorem rttUpdate_sink (x : Time) : (rttUpdate x s).sink = s.sink := rfl
@[simp] theorem rttUpdate_logR (x : Time) : (rttUpdate x s).logR = s.logR := rfl
@[simp] theorem rttUpdate_sumR (x : Time) : (rttUpdate x s).sumR = s.sumR := rfl
@[simp] theorem rttUpdate_now (x : Time) : (rttUpdate x s).now = s.now := rfl
@[simp] theorem rttUpdate_result (x : Time) : (rttUpdate x s).result = s.result := rfl
@[simp] theorem rttUpdate_chanRS (x : Time) : (rttUpdate x s).chanRS = s.chanRS := rfl

@[simp] theorem rttArm_sched : (rttArm s).env.sched = s.env.sched := by unfold rttArm; split <;> rfl
@[simp] theorem rttArm_rcv : (rttArm s).rcv = s.rcv := by unfold rttArm; split <;> rfl
@[simp] theorem rttArm_cfg : (rttArm s).cfg = s.cfg := by unfold rttArm; split <;> rfl
@[simp] theorem rttArm_cntR : (rttArm s).cntR = s.cntR := by unfold rttArm; split <;> rfl
@[simp] theorem rttArm_src : (rttArm s).src = s.src := by unfold rttArm; split <;> rfl
@[simp] theorem rttArm_sink : (rttArm s).sink = s.sink := by unfold rttArm; split <;> rfl
@[simp] theorem rttArm_logR : (rttArm s).logR = s.logR := by unfold rttArm; split <;> rfl
@[simp] theorem rttArm_sumR : (rttArm s).sumR = s.sumR := by unfold rttArm; split <;> rfl
@[simp] theorem rttArm_now : (rttArm s).now = s.now := by unfold rttArm; split <;> rfl
@[simp] theorem rttArm_result : (rttArm s).result = s.result := by unfold rttArm; split <;> rfl
@[simp] theorem rttArm_chanRS : (rttArm s).chanRS = s.chanRS := by unfold rttArm; split <;> rfl

@[simp] theorem rttSample_sched (a : Nat) (t : Timed) : (rttSample a t s).env.sched = s.env.sched := by unfold rttSample; split_ifs <;> simp
@[simp] theorem rttSample_rcv (a : Nat) (t : Timed) : (rttSample a t s).rcv = s.rcv := by unfold rttSample; split_ifs <;> simp
@[simp] theorem rttSample_cfg (a : Nat) (t : Timed) : (rttSample a t s).cfg = s.cfg := by unfold rttSample; split_ifs <;> simp
@[simp] theorem rttSample_cntR (a : Nat) (t : Timed) : (rttSample a t s).cntR = s.cntR := by unfold rttSample; split_ifs <;> simp
@[simp] theorem rttSample_src (a : Nat) (t : Timed) : (rttSample a t s).src = s.src := by unfold rttSample; split_ifs <;> simp
@[simp] theorem rttSample_sink (a : Nat) (t : Timed) : (rttSample a t s).sink = s.sink := by unfold rttSample; split_ifs <;> simp
@[simp] theorem rttSample_logR (a : Nat) (t : Timed) : (rttSample a t s).logR = s.logR := by unfold rttSample; split_ifs <;> simp
@[simp] theorem rttSample_sumR (a : Nat) (t : Timed) : (rttSample a t s).sumR = s.sumR := by unfold rttSample; split_ifs <;> simp
@[simp] theorem rttSample_now (a : Nat) (t : Timed) : (rttSample a t s).now = s.now := by unfold rttSample; split_ifs <;> simp
@[simp] theorem rttSample_result (a : Nat) (t : Timed) : (rttSample a t s).result = s.result := by unfold rttSample; split_ifs <;> simp
@[simp] theorem rttSample_chanRS (a : Nat) (t : Timed) : (rttSample a t s).chanRS = s.chanRS := by unfold rttSample; split_ifs <;> simp

@[simp] theorem rttCycle_sched (a : Nat) : (rttCycle a s).env.sched = s.env.sched := by unfold rttCycle; split_ifs <;> rfl
@[simp] theorem rttCycle_rcv (a : Nat) : (rttCycle a s).rcv = s.rcv := by unfold rttCycle; split_ifs <;> rfl
@[simp] theorem rttCycle_cfg (a : Nat) : (rttCycle a s).cfg = s.cfg := by unfold rttCycle; split_ifs <;> rfl
@[simp] theorem rttCycle_cntR (a : Nat) : (rttCycle a s).cntR = s.cntR := by unfold rttCycle; split_ifs <;> rfl
@[simp] theorem rttCycle_src (a : Nat) : (rttCycle a s).src = s.src := by unfold rttCycle; split_ifs <;> rfl
@[simp] theorem rttCycle_sink (a : Nat) : (rttCycle a s).sink = s.sink := by unfold rttCycle; split_ifs <;> rfl
@[simp] theorem rttCycle_logR (a : Nat) : (rttCycle a s).logR = s.logR := by unfold rttCycle; split_ifs <;> rfl
@[simp] theorem rttCycle_sumR (a : Nat) : (rttCycle a s).sumR = s.sumR := by unfold rttCycle; split_ifs <;> rfl
@[simp] theorem rttCycle_now (a : Nat) : (rttCycle a s).now = s.now := by unfold rttCycle; split_ifs <;> rfl
@[simp] theorem rttCycle_result (a : Nat) : (rttCycle a s).result = s.result := by unfold rttCycle; split_ifs <;> rfl
@[simp] theorem rttCycle_chanRS (a : Nat) : (rttCycle a s).chanRS = s.chanRS := by unfold rttCycle; split_ifs <;> rfl

@[simp] theorem rttOnFwdAck_sched (a : Nat) : (rttOnFwdAck a s).env.sched = s.env.sched := by unfold rttOnFwdAck; split <;> simp
@[simp] theorem rttOnFwdAck_rcv (a : Nat) : (rttOnFwdAck a s).rcv = s.rcv := by unfold rttOnFwdAck; split <;> simp
@[simp] theorem rttOnFwdAck_cfg (a : Nat) : (rttOnFwdAck a s).cfg = s.cfg := by unfold rttOnFwdAck; split <;> simp
@[simp] theorem rttOnFwdAck_cntR (a : Nat) : (rttOnFwdAck a s).cntR = s.cntR := by unfold rttOnFwdAck; split <;> simp
@[simp] theorem rttOnFwdAck_src (a : Nat) : (rttOnFwdAck a s).src = s.src := by unfold rttOnFwdAck; split <;> simp
@[simp] theorem rttOnFwdAck_sink (a : Nat) : (rttOnFwdAck a s).sink = s.sink := by unfold rttOnFwdAck; split <;> simp
@[simp] theorem rttOnFwdAck_logR (a : Nat) : (rttOnFwdAck a s).logR = s.logR := by unfold rttOnFwdAck; split <;> simp
@[simp] theorem rttOnFwdAck_sumR (a : Nat) : (rttOnFwdAck a s).sumR = s.sumR := by unfold rttOnFwdAck; split <;> simp
@[simp] theorem rttOnFwdAck_now (a : Nat) : (rttOnFwdAck a s).now = s.now := by unfold rttOnFwdAck; split <;> simp
@[simp] theorem rttOnFwdAck_result (a : Nat) : (rttOnFwdAck a s).result = s.result := by unfold rttOnFwdAck; split <;> simp
@[simp] theorem rttOnFwdAck_chanRS (a : Nat) : (rttOnFwdAck a s).chanRS = s.chanRS := by unfold rttOnFwdAck; split <;> simp

@[simp] theorem setSndPhase_sched (ph : SndPhase) : (setSndPhase ph s).env.sched = s.env.sched := rfl
@[simp] theorem setSndPhase_rcv (ph : SndPhase) : (setSndPhase ph s).rcv = s.rcv := rfl
@[simp] theorem setSndPhase_cfg (ph : SndPhase) : (setSndPhase ph s).cfg = s.cfg := rfl
@[simp] theorem setSndPhase_cntR (ph : SndPhase) : (setSndPhase ph s).cntR = s.cntR := rfl
@[simp] theorem setSndPhase_src (ph : SndPhase) : (setSndPhase ph s).src = s.src := rfl
@[simp] theorem setSndPhase_sink (ph : SndPhase) : (setSndPhase ph s).sink = s.sink := rfl
@[simp] theorem setSndPhase_logR (ph : SndPhase) : (setSndPhase ph s).logR = s.logR := rfl
@[simp] theorem setSndPhase_sumR (ph : SndPhase) : (setSndPhase ph s).sumR = s.sumR := rfl
@[simp] theorem setSndPhase_now (ph : SndPhase) : (setSndPhase ph s).now = s.now := rfl
@[simp] theorem setSndPhase_result (ph : SndPhase) : (setSndPhase ph s).result = s.result := rfl
@[simp] theorem setSndPhase_chanRS (ph : SndPhase) : (setSndPhase ph s).chanRS = s.chanRS := rfl

@[simp] theorem sOpenRegs_sched : (sOpenRegs s).env.sched = s.env.sched := rfl
@[simp] theorem sOpenRegs_rcv : (sOpenRegs s).rcv = s.rcv := rfl
@[simp] theorem sOpenRegs_cfg : (sOpenRegs s).cfg = s.cfg := rfl
@[simp] theorem sOpenRegs_cntR : (sOpenRegs s).cntR = s.cntR := rfl
@[simp] theorem sOpenRegs_src : (sOpenRegs s).src = s.src := rfl
@[simp] theorem sOpenRegs_sink : (sOpenRegs s).sink = s.sink := rfl
@[simp] theorem sOpenRegs_logR : (sOpenRegs s).logR = s.logR := rfl
@[simp] theorem sOpenRegs_sumR : (sOpenRegs s).sumR = s.sumR := rfl
@[simp] theorem sOpenRegs_now : (sOpenRegs s).now = s.now := rfl
@[simp] theorem sOpenRegs_result : (sOpenRegs s).result = s.result := rfl
@[simp] theorem sOpenRegs_chanRS : (sOpenRegs s).chanRS = s.chanRS := rfl

@[simp] theorem sOpen_sched : (sOpen s).env.sched = s.env.sched := by simp [sOpen]
@[simp] theorem sOpen_rcv : (sOpen s).rcv = s.rcv := by simp [sOpen]
@[simp] theorem sOpen_cfg : (sOpen s).cfg = s.cfg := by simp [sOpen]
@[simp] theorem sOpen_cntR : (sOpen s).cntR = s.cntR := by simp [sOpen]
@[simp] theorem sOpen_src : (sOpen s).src = s.src := by simp [sOpen]
@[simp] theorem sOpen_sink : (sOpen s).sink = s.sink := by simp [sOpen]
@[simp] theorem sOpen_logR : (sOpen s).logR = s.logR := by simp [sOpen]
@[simp] theorem sOpen_sumR : (sOpen s).sumR = s.sumR := by simp [sOpen]
@[simp] theorem sOpen_now : (sOpen s).now = s.now := by simp [sOpen]
@[simp] theorem sOpen_result : (sOpen s).result = s.result := by simp [sOpen]
@[simp] theorem sOpen_chanRS : (sOpen s).chanRS = s.chanRS := by simp [sOpen]

@[simp] theorem sRxCorrupt_sched (b : Bytes) (c : Cause) : (sRxCorrupt b c s).env.sched = s.env.sched := rfl
@[simp] theorem sRxCorrupt_rcv (b : Bytes) (c : Cause) : (sRxCorrupt b c s).rcv = s.rcv := rfl
@[simp] theorem sRxCorrupt_cfg (b : Bytes) (c : Cause) : (sRxCorrupt b c s).cfg = s.cfg := rfl
@[simp] theorem sRxCorrupt_cntR (b : Bytes) (c : Cause) : (sRxCorrupt b c s).cntR = s.cntR := rfl
@[simp] theorem sRxCorrupt_src (b : Bytes) (c : Cause) : (sRxCorrupt b c s).src = s.src := rfl
@[simp] theorem sRxCorrupt_sink (b : Bytes) (c : Cause) : (sRxCorrupt b c s).sink = s.sink := rfl
@[simp] theorem sRxCorrupt_logR (b : Bytes) (c : Cause) : (sRxCorrupt b c s).logR = s.logR := rfl
@[simp] theorem sRxCorrupt_sumR (b : Bytes) (c : Cause) : (sRxCorrupt b c s).sumR = s.sumR := rfl
@[simp] theorem sRxCorrupt_now (b : Bytes) (c : Cause) : (sRxCorrupt b c s).now = s.now := rfl
@[simp] theorem sRxCorrupt_result (b : Bytes) (c : Cause) : (sRxCorrupt b c s).result = s.result := rfl
@[simp] theorem sRxCorrupt_chanRS (b : Bytes) (c : Cause) : (sRxCorrupt b c s).chanRS = s.chanRS := rfl

@[simp] theorem sRxSynack_sched (p : Packet) : (sRxSynack p s).env.sched = s.env.sched := rfl
@[simp] theorem sRxSynack_rcv (p : Packet) : (sRxSynack p s).rcv = s.rcv := rfl
@[simp] theorem sRxSynack_cfg (p : Packet) : (sRxSynack p s).cfg = s.cfg := rfl
@[simp] theorem sRxSynack_cntR (p : Packet) : (sRxSynack p s).cntR = s.cntR := rfl
@[simp] theorem sRxSynack_src (p : Packet) : (sRxSynack p s).src = s.src := rfl
@[simp] theorem sRxSynack_sink (p : Packet) : (sRxSynack p s).sink = s.sink := rfl
@[simp] theorem sRxSynack_logR (p : Packet) : (sRxSynack p s).logR = s.logR := rfl
@[simp] theorem sRxSynack_sumR (p : Packet) : (sRxSynack p s).sumR = s.sumR := rfl
@[simp] theorem sRxSynack_now (p : Packet) : (sRxSynack p s).now = s.now := rfl
@[simp] theorem sRxSynack_result (p : Packet) : (sRxSynack p s).result = s.result := rfl
@[simp] theorem sRxSynack_chanRS (p : Packet) : (sRxSynack p s).chanRS = s.chanRS := rfl

@[simp] theorem sHsack_sched : (sHsack s).env.sched = s.env.sched := by simp [sHsack]
@[simp] theorem sHsack_rcv : (sHsack s).rcv = s.rcv := by simp [sHsack]
@[simp] theorem sHsack_cfg : (sHsack s).cfg = s.cfg := by simp [sHsack]
@[simp] theorem sHsack_cntR : (sHsack s).cntR = s.cntR := by simp [sHsack]
@[simp] theorem sHsack_src : (sHsack s).src = s.src := by simp [sHsack]
@[simp] theorem sHsack_sink : (sHsack s).sink = s.sink := by simp [sHsack]
@[simp] theorem sHsack_logR : (sHsack s).logR = s.logR := by simp [sHsack]
@[simp] theorem sHsack_sumR : (sHsack s).sumR = s.sumR := by simp [sHsack]
@[simp] theorem sHsack_now : (sHsack s).now = s.now := by simp [sHsack]
@[simp] theorem sHsack_result : (sHsack s).result = s.result := by simp [sHsack]
@[simp] theorem sHsack_chanRS : (sHsack s).chanRS = s.chanRS := by simp [sHsack]

@[simp] theorem sSend_sched : (sSend s).env.sched = s.env.sched := by simp [sSend]
@[simp] theorem sSend_rcv : (sSend s).rcv = s.rcv := by simp [sSend]
@[simp] theorem sSend_cfg : (sSend s).cfg = s.cfg := by simp [sSend]
@[simp] theorem sSend_cntR : (sSend s).cntR = s.cntR := by simp [sSend]
@[simp] theorem sSend_src : (sSend s).src = s.src := by simp [sSend]
@[simp] theorem sSend_sink : (sSend s).sink = s.sink := by simp [sSend]
@[simp] theorem sSend_logR : (sSend s).logR = s.logR := by simp [sSend]
@[simp] theorem sSend_sumR : (sSend s).sumR = s.sumR := by simp [sSend]
@[simp] theorem sSend_now : (sSend s).now = s.now := by simp [sSend]
@[simp] theorem sSend_result : (sSend s).result = s.result := by simp [sSend]
@[simp] theorem sSend_chanRS : (sSend s).chanRS = s.chanRS := by simp [sSend]

@[simp] theorem sAckFwd_sched (a : Nat) : (sAckFwd a s).env.sched = s.env.sched := by simp [sAckFwd]
@[simp] theorem sAckFwd_rcv (a : Nat) : (sAckFwd a s).rcv = s.rcv := by simp [sAckFwd]
@[simp] theorem sAckFwd_cfg (a : Nat) : (sAckFwd a s).cfg = s.cfg := by simp [sAckFwd]
@[simp] theorem sAckFwd_cntR (a : Nat) : (sAckFwd a s).cntR = s.cntR := by simp [sAckFwd]
@[simp] theorem sAckFwd_src (a : Nat) : (sAckFwd a s).src = s.src := by simp [sAckFwd]
@[simp] theorem sAckFwd_sink (a : Nat) : (sAckFwd a s).sink = s.sink := by simp [sAckFwd]
@[simp] theorem sAckFwd_logR (a : Nat) : (sAckFwd a s).logR = s.logR := by simp [sAckFwd]
@[simp] theorem sAckFwd_sumR (a : Nat) : (sAckFwd a s).sumR = s.sumR := by simp [sAckFwd]
@[simp] theorem sAckFwd_now (a : Nat) : (sAckFwd a s).now = s.now := by simp [sAckFwd]
@[simp] theorem sAckFwd_result (a : Nat) : (sAckFwd a s).result = s.result := by simp [sAckFwd]
@[simp] theorem sAckFwd_chanRS (a : Nat) : (sAckFwd a s).chanRS = s.chanRS := by simp [sAckFwd]

@[simp] theorem sFastretx_sched (a : Nat) : (sFastretx a s).env.sched = s.env.sched := by unfold sFastretx; split_ifs <;> simp
@[simp] theorem sFastretx_rcv (a : Nat) : (sFastretx a s).rcv = s.rcv := by unfold sFastretx; split_ifs <;> simp
@[simp] theorem sFastretx_cfg (a : Nat) : (sFastretx a s).cfg = s.cfg := by unfold sFastretx; split_ifs <;> simp
@[simp] theorem sFastretx_cntR (a : Nat) : (sFastretx a s).cntR = s.cntR := by unfold sFastretx; split_ifs <;> simp
@[simp] theorem sFastretx_src (a : Nat) : (sFastretx a s).src = s.src := by unfold sFastretx; split_ifs <;> simp
@[simp] theorem sFastretx_sink (a : Nat) : (sFastretx a s).sink = s.sink := by unfold sFastretx; split_ifs <;> simp
@[simp] theorem sFastretx_logR (a : Nat) : (sFastretx a s).logR = s.logR := by unfold sFastretx; split_ifs <;> simp
@[simp] theorem sFastretx_sumR (a : Nat) : (sFastretx a s).sumR = s.sumR := by unfold sFastretx; split_ifs <;> simp
@[simp] theorem sFastretx_now (a : Nat) : (sFastretx a s).now = s.now := by unfold sFastretx; split_ifs <;> simp
@[simp] theorem sFastretx_result (a : Nat) : (sFastretx a s).result = s.result := by unfold sFastretx; split_ifs <;> simp
@[simp] theorem sFastretx_chanRS (a : Nat) : (sFastretx a s).chanRS = s.chanRS := by unfold sFastretx; split_ifs <;> simp

@[simp] theorem sAckStale_sched (a : Nat) : (sAckStale a s).env.sched = s.env.sched := by unfold sAckStale; simp only []; split_ifs <;> simp
@[simp] theorem sAckStale_rcv (a : Nat) : (sAckStale a s).rcv = s.rcv := by unfold sAckStale; simp only []; split_ifs <;> simp
@[simp] theorem sAckStale_cfg (a : Nat) : (sAckStale a s).cfg = s.cfg := by unfold sAckStale; simp only []; split_ifs <;> simp
@[simp] theorem sAckStale_cntR (a : Nat) : (sAckStale a s).cntR = s.cntR := by unfold sAckStale; simp only []; split_ifs <;> simp
@[simp] theorem sAckStale_src (a : Nat) : (sAckStale a s).src = s.src := by unfold sAckStale; simp only []; split_ifs <;> simp
@[simp] theorem sAckStale_sink (a : Nat) : (sAckStale a s).sink = s.sink := by unfold sAckStale; simp only []; split_ifs <;> simp
@[simp] theorem sAckStale_logR (a : Nat) : (sAckStale a s).logR = s.logR := by unfold sAckStale; simp only []; split_ifs <;> simp
@[simp] theorem sAckStale_sumR (a : Nat) : (sAckStale a s).sumR = s.sumR := by unfold sAckStale; simp only []; split_ifs <;> simp
@[simp] theorem sAckStale_now (a : Nat) : (sAckStale a s).now = s.now := by unfold sAckStale; simp only []; split_ifs <;> simp
@[simp] theorem sAckStale_result (a : Nat) : (sAckStale a s).result = s.result := by unfold sAckStale; simp only []; split_ifs <;> simp
@[simp] theorem sAckStale_chanRS (a : Nat) : (sAckStale a s).chanRS = s.chanRS := by unfold sAckStale; simp only []; split_ifs <;> simp

@[simp] theorem sRxDiscard_sched (p : Packet) : (sRxDiscard p s).env.sched = s.env.sched := rfl
@[simp] theorem sRxDiscard_rcv (p : Packet) : (sRxDiscard p s).rcv = s.rcv := rfl
@[simp] theorem sRxDiscard_cfg (p : Packet) : (sRxDiscard p s).cfg = s.cfg := rfl
@[simp] theorem sRxDiscard_cntR (p : Packet) : (sRxDiscard p s).cntR = s.cntR := rfl
@[simp] theorem sRxDiscard_src (p : Packet) : (sRxDiscard p s).src = s.src := rfl
@[simp] theorem sRxDiscard_sink (p : Packet) : (sRxDiscard p s).sink = s.sink := rfl
@[simp] theorem sRxDiscard_logR (p : Packet) : (sRxDiscard p s).logR = s.logR := rfl
@[simp] theorem sRxDiscard_sumR (p : Packet) : (sRxDiscard p s).sumR = s.sumR := rfl
@[simp] theorem sRxDiscard_now (p : Packet) : (sRxDiscard p s).now = s.now := rfl
@[simp] theorem sRxDiscard_result (p : Packet) : (sRxDiscard p s).result = s.result := rfl
@[simp] theorem sRxDiscard_chanRS (p : Packet) : (sRxDiscard p s).chanRS = s.chanRS := rfl

@[simp] theorem sRxAck_sched (p : Packet) : (sRxAck p s).env.sched = s.env.sched := by unfold sRxAck; split_ifs <;> simp
@[simp] theorem sRxAck_rcv (p : Packet) : (sRxAck p s).rcv = s.rcv := by unfold sRxAck; split_ifs <;> simp
@[simp] theorem sRxAck_cfg (p : Packet) : (sRxAck p s).cfg = s.cfg := by unfold sRxAck; split_ifs <;> simp
@[simp] theorem sRxAck_cntR (p : Packet) : (sRxAck p s).cntR = s.cntR := by unfold sRxAck; split_ifs <;> simp
@[simp] theorem sRxAck_src (p : Packet) : (sRxAck p s).src = s.src := by unfold sRxAck; split_ifs <;> simp
@[simp] theorem sRxAck_sink (p : Packet) : (sRxAck p s).sink = s.sink := by unfold sRxAck; split_ifs <;> simp
@[simp] theorem sRxAck_logR (p : Packet) : (sRxAck p s).logR = s.logR := by unfold sRxAck; split_ifs <;> simp
@[simp] theorem sRxAck_sumR (p : Packet) : (sRxAck p s).sumR = s.sumR := by unfold sRxAck; split_ifs <;> simp
@[simp] theorem sRxAck_now (p : Packet) : (sRxAck p s).now = s.now := by unfold sRxAck; split_ifs <;> simp
@[simp] theorem sRxAck_result (p : Packet) : (sRxAck p s).result = s.result := by unfold sRxAck; split_ifs <;> simp
@[simp] theorem sRxAck_chanRS (p : Packet) : (sRxAck p s).chanRS = s.chanRS := by unfold sRxAck; split_ifs <;> simp

@[simp] theorem sTimeout_sched : (sTimeout s).env.sched = s.env.sched := rfl
@[simp] theorem sTimeout_rcv : (sTimeout s).rcv = s.rcv := rfl
@[simp] theorem sTimeout_cfg : (sTimeout s).cfg = s.cfg := rfl
@[simp] theorem sTimeout_cntR : (sTimeout s).cntR = s.cntR := rfl
@[simp] theorem sTimeout_src : (sTimeout s).src = s.src := rfl
@[simp] theorem sTimeout_sink : (sTimeout s).sink = s.sink := rfl
@[simp] theorem sTimeout_logR : (sTimeout s).logR = s.logR := rfl
@[simp] theorem sTimeout_sumR : (sTimeout s).sumR = s.sumR := rfl
@[simp] theorem sTimeout_now : (sTimeout s).now = s.now := rfl
@[simp] theorem sTimeout_result : (sTimeout s).result = s.result := rfl
@[simp] theorem sTimeout_chanRS : (sTimeout s).chanRS = s.chanRS := rfl

@[simp] theorem sFin_sched : (sFin s).env.sched = s.env.sched := by simp [sFin]
@[simp] theorem sFin_rcv : (sFin s).rcv = s.rcv := by simp [sFin]
@[simp] theorem sFin_cfg : (sFin s).cfg = s.cfg := by simp [sFin]
@[simp] theorem sFin_cntR : (sFin s).cntR = s.cntR := by simp [sFin]
@[simp] theorem sFin_src : (sFin s).src = s.src := by simp [sFin]
@[simp] theorem sFin_sink : (sFin s).sink = s.sink := by simp [sFin]
@[simp] theorem sFin_logR : (sFin s).logR = s.logR := by simp [sFin]
@[simp] theorem sFin_sumR : (sFin s).sumR = s.sumR := by simp [sFin]
@[simp] theorem sFin_now : (sFin s).now = s.now := by simp [sFin]
@[simp] theorem sFin_result : (sFin s).result = s.result := by simp [sFin]
@[simp] theorem sFin_chanRS : (sFin s).chanRS = s.chanRS := by simp [sFin]

@[simp] theorem sRxFinack_sched (p : Packet) : (sRxFinack p s).env.sched = s.env.sched := rfl
@[simp] theorem sRxFinack_rcv (p : Packet) : (sRxFinack p s).rcv = s.rcv := rfl
@[simp] theorem sRxFinack_cfg (p : Packet) : (sRxFinack p s).cfg = s.cfg := rfl
@[simp] theorem sRxFinack_cntR (p : Packet) : (sRxFinack p s).cntR = s.cntR := rfl
@[simp] theorem sRxFinack_src (p : Packet) : (sRxFinack p s).src = s.src := rfl
@[simp] theorem sRxFinack_sink (p : Packet) : (sRxFinack p s).sink = s.sink := rfl
@[simp] theorem sRxFinack_logR (p : Packet) : (sRxFinack p s).logR = s.logR := rfl
@[simp] theorem sRxFinack_sumR (p : Packet) : (sRxFinack p s).sumR = s.sumR := rfl
@[simp] theorem sRxFinack_now (p : Packet) : (sRxFinack p s).now = s.now := rfl
@[simp] theorem sRxFinack_result (p : Packet) : (sRxFinack p s).result = s.result := rfl
@[simp] theorem sRxFinack_chanRS (p : Packet) : (sRxFinack p s).chanRS = s.chanRS := rfl

@[simp] theorem sRxPeerfin_sched (p : Packet) : (sRxPeerfin p s).env.sched = s.env.sched := by simp [sRxPeerfin]
@[simp] theorem sRxPeerfin_rcv (p : Packet) : (sRxPeerfin p s).rcv = s.rcv := by simp [sRxPeerfin]
@[simp] theorem sRxPeerfin_cfg (p : Packet) : (sRxPeerfin p s).cfg = s.cfg := by simp [sRxPeerfin]
@[simp] theorem sRxPeerfin_cntR (p : Packet) : (sRxPeerfin p s).cntR = s.cntR := by simp [sRxPeerfin]
@[simp] theorem sRxPeerfin_src (p : Packet) : (sRxPeerfin p s).src = s.src := by simp [sRxPeerfin]
@[simp] theorem sRxPeerfin_sink (p : Packet) : (sRxPeerfin p s).sink = s.sink := by simp [sRxPeerfin]
@[simp] theorem sRxPeerfin_logR (p : Packet) : (sRxPeerfin p s).logR = s.logR := by simp [sRxPeerfin]
@[simp] theorem sRxPeerfin_sumR (p : Packet) : (sRxPeerfin p s).sumR = s.sumR := by simp [sRxPeerfin]
@[simp] theorem sRxPeerfin_now (p : Packet) : (sRxPeerfin p s).now = s.now := by simp [sRxPeerfin]
@[simp] theorem sRxPeerfin_result (p : Packet) : (sRxPeerfin p s).result = s.result := by simp [sRxPeerfin]
@[simp] theorem sRxPeerfin_chanRS (p : Packet) : (sRxPeerfin p s).chanRS = s.chanRS := by simp [sRxPeerfin]

@[simp] theorem sDispatch_sched (p : Packet) : (sDispatch p s).env.sched = s.env.sched := by unfold sDispatch; split <;> (try split_ifs) <;> simp
@[simp] theorem sDispatch_rcv (p : Packet) : (sDispatch p s).rcv = s.rcv := by unfold sDispatch; split <;> (try split_ifs) <;> simp
@[simp] theorem sDispatch_cfg (p : Packet) : (sDispatch p s).cfg = s.cfg := by unfold sDispatch; split <;> (try split_ifs) <;> simp
@[simp] theorem sDispatch_cntR (p : Packet) : (sDispatch p s).cntR = s.cntR := by unfold sDispatch; split <;> (try split_ifs) <;> simp
@[simp] theorem sDispatch_src (p : Packet) : (sDispatch p s).src = s.src := by unfold sDispatch; split <;> (try split_ifs) <;> simp
@[simp] theorem sDispatch_sink (p : Packet) : (sDispatch p s).sink = s.sink := by unfold sDispatch; split <;> (try split_ifs) <;> simp
@[simp] theorem sDispatch_logR (p : Packet) : (sDispatch p s).logR = s.logR := by unfold sDispatch; split <;> (try split_ifs) <;> simp
@[simp] theorem sDispatch_sumR (p : Packet) : (sDispatch p s).sumR = s.sumR := by unfold sDispatch; split <;> (try split_ifs) <;> simp
@[simp] theorem sDispatch_now (p : Packet) : (sDispatch p s).now = s.now := by unfold sDispatch; split <;> (try split_ifs) <;> simp
@[simp] theorem sDispatch_result (p : Packet) : (sDispatch p s).result = s.result := by unfold sDispatch; split <;> (try split_ifs) <;> simp
@[simp] theorem sDispatch_chanRS (p : Packet) : (sDispatch p s).chanRS = s.chanRS := by unfold sDispatch; split <;> (try split_ifs) <;> simp

@[simp] theorem sReceive_sched (b : Bytes) : (sReceive b s).env.sched = s.env.sched := by unfold sReceive; split <;> simp
@[simp] theorem sReceive_rcv (b : Bytes) : (sReceive b s).rcv = s.rcv := by unfold sReceive; split <;> simp
@[simp] theorem sReceive_cfg (b : Bytes) : (sReceive b s).cfg = s.cfg := by unfold sReceive; split <;> simp
@[simp] theorem sReceive_cntR (b : Bytes) : (sReceive b s).cntR = s.cntR := by unfold sReceive; split <;> simp
@[simp] theorem sReceive_src (b : Bytes) : (sReceive b s).src = s.src := by unfold sReceive; split <;> simp
@[simp] theorem sReceive_sink (b : Bytes) : (sReceive b s).sink = s.sink := by unfold sReceive; split <;> simp
@[simp] theorem sReceive_logR (b : Bytes) : (sReceive b s).logR = s.logR := by unfold sReceive; split <;> simp
@[simp] theorem sReceive_sumR (b : Bytes) : (sReceive b s).sumR = s.sumR := by unfold sReceive; split <;> simp
@[simp] theorem sReceive_now (b : Bytes) : (sReceive b s).now = s.now := by unfold sReceive; split <;> simp
@[simp] theorem sReceive_result (b : Bytes) : (sReceive b s).result = s.result := by unfold sReceive; split <;> simp
@[simp] theorem sReceive_chanRS (b : Bytes) : (sReceive b s).chanRS = s.chanRS := by unfold sReceive; split <;> simp

/-! ### Receiver rules -/

@[simp] theorem setRcvPhase_snd (ph : RcvPhase) : (setRcvPhase ph s).snd = s.snd := rfl
@[simp] theorem setRcvPhase_pld (ph : RcvPhase) : (setRcvPhase ph s).pld = s.pld := rfl
@[simp] theorem setRcvPhase_cfg (ph : RcvPhase) : (setRcvPhase ph s).cfg = s.cfg := rfl
@[simp] theorem setRcvPhase_cntS (ph : RcvPhase) : (setRcvPhase ph s).cntS = s.cntS := rfl
@[simp] theorem setRcvPhase_src (ph : RcvPhase) : (setRcvPhase ph s).src = s.src := rfl
@[simp] theorem setRcvPhase_logS (ph : RcvPhase) : (setRcvPhase ph s).logS = s.logS := rfl
@[simp] theorem setRcvPhase_sumS (ph : RcvPhase) : (setRcvPhase ph s).sumS = s.sumS := rfl
@[simp] theorem setRcvPhase_now (ph : RcvPhase) : (setRcvPhase ph s).now = s.now := rfl
@[simp] theorem setRcvPhase_result (ph : RcvPhase) : (setRcvPhase ph s).result = s.result := rfl
@[simp] theorem setRcvPhase_env (ph : RcvPhase) : (setRcvPhase ph s).env = s.env := rfl
@[simp] theorem setRcvPhase_chanSR (ph : RcvPhase) : (setRcvPhase ph s).chanSR = s.chanSR := rfl

@[simp] theorem rXmit_snd (f : Bytes) : (rXmit f s).snd = s.snd := by simp [rXmit]
@[simp] theorem rXmit_pld (f : Bytes) : (rXmit f s).pld = s.pld := by simp [rXmit]
@[simp] theorem rXmit_cfg (f : Bytes) : (rXmit f s).cfg = s.cfg := by simp [rXmit]
@[simp] theorem rXmit_cntS (f : Bytes) : (rXmit f s).cntS = s.cntS := by simp [rXmit]
@[simp] theorem rXmit_src (f : Bytes) : (rXmit f s).src = s.src := by simp [rXmit]
@[simp] theorem rXmit_logS (f : Bytes) : (rXmit f s).logS = s.logS := by simp [rXmit]
@[simp] theorem rXmit_sumS (f : Bytes) : (rXmit f s).sumS = s.sumS := by simp [rXmit]
@[simp] theorem rXmit_now (f : Bytes) : (rXmit f s).now = s.now := by simp [rXmit]
@[simp] theorem rXmit_result (f : Bytes) : (rXmit f s).result = s.result := by simp [rXmit]
@[simp] theorem rXmit_env (f : Bytes) : (rXmit f s).env = s.env := by simp [rXmit]
@[simp] theorem rXmit_chanSR (f : Bytes) : (rXmit f s).chanSR = s.chanSR := by simp [rXmit]

@[simp] theorem rRxCorrupt_snd (b : Bytes) (c : Cause) : (rRxCorrupt b c s).snd = s.snd := by unfold rRxCorrupt takeAnomaly; simp only []; split_ifs <;> simp
@[simp] theorem rRxCorrupt_pld (b : Bytes) (c : Cause) : (rRxCorrupt b c s).pld = s.pld := by unfold rRxCorrupt takeAnomaly; simp only []; split_ifs <;> simp
@[simp] theorem rRxCorrupt_cfg (b : Bytes) (c : Cause) : (rRxCorrupt b c s).cfg = s.cfg := by unfold rRxCorrupt takeAnomaly; simp only []; split_ifs <;> simp
@[simp] theorem rRxCorrupt_cntS (b : Bytes) (c : Cause) : (rRxCorrupt b c s).cntS = s.cntS := by unfold rRxCorrupt takeAnomaly; simp only []; split_ifs <;> simp
@[simp] theorem rRxCorrupt_src (b : Bytes) (c : Cause) : (rRxCorrupt b c s).src = s.src := by unfold rRxCorrupt takeAnomaly; simp only []; split_ifs <;> simp
@[simp] theorem rRxCorrupt_logS (b : Bytes) (c : Cause) : (rRxCorrupt b c s).logS = s.logS := by unfold rRxCorrupt takeAnomaly; simp only []; split_ifs <;> simp
@[simp] theorem rRxCorrupt_sumS (b : Bytes) (c : Cause) : (rRxCorrupt b c s).sumS = s.sumS := by unfold rRxCorrupt takeAnomaly; simp only []; split_ifs <;> simp
@[simp] theorem rRxCorrupt_now (b : Bytes) (c : Cause) : (rRxCorrupt b c s).now = s.now := by unfold rRxCorrupt takeAnomaly; simp only []; split_ifs <;> simp
@[simp] theorem rRxCorrupt_result (b : Bytes) (c : Cause) : (rRxCorrupt b c s).result = s.result := by unfold rRxCorrupt takeAnomaly; simp only []; split_ifs <;> simp
@[simp] theorem rRxCorrupt_env (b : Bytes) (c : Cause) : (rRxCorrupt b c s).env = s.env := by unfold rRxCorrupt takeAnomaly; simp only []; split_ifs <;> simp
@[simp] theorem rRxCorrupt_chanSR (b : Bytes) (c : Cause) : (rRxCorrupt b c s).chanSR = s.chanSR := by unfold rRxCorrupt takeAnomaly; simp only []; split_ifs <;> simp

@[simp] theorem rRxSyn_snd (p : Packet) : (rRxSyn p s).snd = s.snd := by unfold rRxSyn; split_ifs <;> rfl
@[simp] theorem rRxSyn_pld (p : Packet) : (rRxSyn p s).pld = s.pld := by unfold rRxSyn; split_ifs <;> rfl
@[simp] theorem rRxSyn_cfg (p : Packet) : (rRxSyn p s).cfg = s.cfg := by unfold rRxSyn; split_ifs <;> rfl
@[simp] theorem rRxSyn_cntS (p : Packet) : (rRxSyn p s).cntS = s.cntS := by unfold rRxSyn; split_ifs <;> rfl
@[simp] theorem rRxSyn_src (p : Packet) : (rRxSyn p s).src = s.src := by unfold rRxSyn; split_ifs <;> rfl
@[simp] theorem rRxSyn_logS (p : Packet) : (rRxSyn p s).logS = s.logS := by unfold rRxSyn; split_ifs <;> rfl
@[simp] theorem rRxSyn_sumS (p : Packet) : (rRxSyn p s).sumS = s.sumS := by unfold rRxSyn; split_ifs <;> rfl
@[simp] theorem rRxSyn_now (p : Packet) : (rRxSyn p s).now = s.now := by unfold rRxSyn; split_ifs <;> rfl
@[simp] theorem rRxSyn_result (p : Packet) : (rRxSyn p s).result = s.result := by unfold rRxSyn; split_ifs <;> rfl
@[simp] theorem rRxSyn_env (p : Packet) : (rRxSyn p s).env = s.env := by unfold rRxSyn; split_ifs <;> rfl
@[simp] theorem rRxSyn_chanSR (p : Packet) : (rRxSyn p s).chanSR = s.chanSR := by unfold rRxSyn; split_ifs <;> rfl

@[simp] theorem rSynack_snd : (rSynack s).snd = s.snd := by simp [rSynack]
@[simp] theorem rSynack_pld : (rSynack s).pld = s.pld := by simp [rSynack]
@[simp] theorem rSynack_cfg : (rSynack s).cfg = s.cfg := by simp [rSynack]
@[simp] theorem rSynack_cntS : (rSynack s).cntS = s.cntS := by simp [rSynack]
@[simp] theorem rSynack_src : (rSynack s).src = s.src := by simp [rSynack]
@[simp] theorem rSynack_logS : (rSynack s).logS = s.logS := by simp [rSynack]
@[simp] theorem rSynack_sumS : (rSynack s).sumS = s.sumS := by simp [rSynack]
@[simp] theorem rSynack_now : (rSynack s).now = s.now := by simp [rSynack]
@[simp] theorem rSynack_result : (rSynack s).result = s.result := by simp [rSynack]
@[simp] theorem rSynack_env : (rSynack s).env = s.env := by simp [rSynack]
@[simp] theorem rSynack_chanSR : (rSynack s).chanSR = s.chanSR := by simp [rSynack]

@[simp] theorem rRxHsack_snd (p : Packet) : (rRxHsack p s).snd = s.snd := rfl
@[simp] theorem rRxHsack_pld (p : Packet) : (rRxHsack p s).pld = s.pld := rfl
@[simp] theorem rRxHsack_cfg (p : Packet) : (rRxHsack p s).cfg = s.cfg := rfl
@[simp] theorem rRxHsack_cntS (p : Packet) : (rRxHsack p s).cntS = s.cntS := rfl
@[simp] theorem rRxHsack_src (p : Packet) : (rRxHsack p s).src = s.src := rfl
@[simp] theorem rRxHsack_logS (p : Packet) : (rRxHsack p s).logS = s.logS := rfl
@[simp] theorem rRxHsack_sumS (p : Packet) : (rRxHsack p s).sumS = s.sumS := rfl
@[simp] theorem rRxHsack_now (p : Packet) : (rRxHsack p s).now = s.now := rfl
@[simp] theorem rRxHsack_result (p : Packet) : (rRxHsack p s).result = s.result := rfl
@[simp] theorem rRxHsack_env (p : Packet) : (rRxHsack p s).env = s.env := rfl
@[simp] theorem rRxHsack_chanSR (p : Packet) : (rRxHsack p s).chanSR = s.chanSR := rfl

@[simp] theorem rDataInorder_snd (p : Packet) : (rDataInorder p s).snd = s.snd := by simp [rDataInorder]
@[simp] theorem rDataInorder_pld (p : Packet) : (rDataInorder p s).pld = s.pld := by simp [rDataInorder]
@[simp] theorem rDataInorder_cfg (p : Packet) : (rDataInorder p s).cfg = s.cfg := by simp [rDataInorder]
@[simp] theorem rDataInorder_cntS (p : Packet) : (rDataInorder p s).cntS = s.cntS := by simp [rDataInorder]
@[simp] theorem rDataInorder_src (p : Packet) : (rDataInorder p s).src = s.src := by simp [rDataInorder]
@[simp] theorem rDataInorder_logS (p : Packet) : (rDataInorder p s).logS = s.logS := by simp [rDataInorder]
@[simp] theorem rDataInorder_sumS (p : Packet) : (rDataInorder p s).sumS = s.sumS := by simp [rDataInorder]
@[simp] theorem rDataInorder_now (p : Packet) : (rDataInorder p s).now = s.now := by simp [rDataInorder]
@[simp] theorem rDataInorder_result (p : Packet) : (rDataInorder p s).result = s.result := by simp [rDataInorder]
@[simp] theorem rDataInorder_env (p : Packet) : (rDataInorder p s).env = s.env := by simp [rDataInorder]
@[simp] theorem rDataInorder_chanSR (p : Packet) : (rDataInorder p s).chanSR = s.chanSR := by simp [rDataInorder]

@[simp] theorem rDataOoo_snd (p : Packet) : (rDataOoo p s).snd = s.snd := by simp [rDataOoo]
@[simp] theorem rDataOoo_pld (p : Packet) : (rDataOoo p s).pld = s.pld := by simp [rDataOoo]
@[simp] theorem rDataOoo_cfg (p : Packet) : (rDataOoo p s).cfg = s.cfg := by simp [rDataOoo]
@[simp] theorem rDataOoo_cntS (p : Packet) : (rDataOoo p s).cntS = s.cntS := by simp [rDataOoo]
@[simp] theorem rDataOoo_src (p : Packet) : (rDataOoo p s).src = s.src := by simp [rDataOoo]
@[simp] theorem rDataOoo_logS (p : Packet) : (rDataOoo p s).logS = s.logS := by simp [rDataOoo]
@[simp] theorem rDataOoo_sumS (p : Packet) : (rDataOoo p s).sumS = s.sumS := by simp [rDataOoo]
@[simp] theorem rDataOoo_now (p : Packet) : (rDataOoo p s).now = s.now := by simp [rDataOoo]
@[simp] theorem rDataOoo_result (p : Packet) : (rDataOoo p s).result = s.result := by simp [rDataOoo]
@[simp] theorem rDataOoo_env (p : Packet) : (rDataOoo p s).env = s.env := by simp [rDataOoo]
@[simp] theorem rDataOoo_chanSR (p : Packet) : (rDataOoo p s).chanSR = s.chanSR := by simp [rDataOoo]

@[simp] theorem rObserve_snd (q : Nat) : (rObserve q s).snd = s.snd := rfl
@[simp] theorem rObserve_pld (q : Nat) : (rObserve q s).pld = s.pld := rfl
@[simp] theorem rObserve_cfg (q : Nat) : (rObserve q s).cfg = s.cfg := rfl
@[simp] theorem rObserve_cntS (q : Nat) : (rObserve q s).cntS = s.cntS := rfl
@[simp] theorem rObserve_src (q : Nat) : (rObserve q s).src = s.src := rfl
@[simp] theorem rObserve_logS (q : Nat) : (rObserve q s).logS = s.logS := rfl
@[simp] theorem rObserve_sumS (q : Nat) : (rObserve q s).sumS = s.sumS := rfl
@[simp] theorem rObserve_now (q : Nat) : (rObserve q s).now = s.now := rfl
@[simp] theorem rObserve_result (q : Nat) : (rObserve q s).result = s.result := rfl
@[simp] theorem rObserve_env (q : Nat) : (rObserve q s).env = s.env := rfl
@[simp] theorem rObserve_chanSR (q : Nat) : (rObserve q s).chanSR = s.chanSR := rfl

@[simp] theorem rRxData_snd (p : Packet) : (rRxData p s).snd = s.snd := by unfold rRxData; simp only []; split_ifs <;> simp
@[simp] theorem rRxData_pld (p : Packet) : (rRxData p s).pld = s.pld := by unfold rRxData; simp only []; split_ifs <;> simp
@[simp] theorem rRxData_cfg (p : Packet) : (rRxData p s).cfg = s.cfg := by unfold rRxData; simp only []; split_ifs <;> simp
@[simp] theorem rRxData_cntS (p : Packet) : (rRxData p s).cntS = s.cntS := by unfold rRxData; simp only []; split_ifs <;> simp
@[simp] theorem rRxData_src (p : Packet) : (rRxData p s).src = s.src := by unfold rRxData; simp only []; split_ifs <;> simp
@[simp] theorem rRxData_logS (p : Packet) : (rRxData p s).logS = s.logS := by unfold rRxData; simp only []; split_ifs <;> simp
@[simp] theorem rRxData_sumS (p : Packet) : (rRxData p s).sumS = s.sumS := by unfold rRxData; simp only []; split_ifs <;> simp
@[simp] theorem rRxData_now (p : Packet) : (rRxData p s).now = s.now := by unfold rRxData; simp only []; split_ifs <;> simp
@[simp] theorem rRxData_result (p : Packet) : (rRxData p s).result = s.result := by unfold rRxData; simp only []; split_ifs <;> simp
@[simp] theorem rRxData_env (p : Packet) : (rRxData p s).env = s.env := by unfold rRxData; simp only []; split_ifs <;> simp
@[simp] theorem rRxData_chanSR (p : Packet) : (rRxData p s).chanSR = s.chanSR := by unfold rRxData; simp only []; split_ifs <;> simp

@[simp] theorem rRxFin_snd (p : Packet) : (rRxFin p s).snd = s.snd := rfl
@[simp] theorem rRxFin_pld (p : Packet) : (rRxFin p s).pld = s.pld := rfl
@[simp] theorem rRxFin_cfg (p : Packet) : (rRxFin p s).cfg = s.cfg := rfl
@[simp] theorem rRxFin_cntS (p : Packet) : (rRxFin p s).cntS = s.cntS := rfl
@[simp] theorem rRxFin_src (p : Packet) : (rRxFin p s).src = s.src := rfl
@[simp] theorem rRxFin_logS (p : Packet) : (rRxFin p s).logS = s.logS := rfl
@[simp] theorem rRxFin_sumS (p : Packet) : (rRxFin p s).sumS = s.sumS := rfl
@[simp] theorem rRxFin_now (p : Packet) : (rRxFin p s).now = s.now := rfl
@[simp] theorem rRxFin_result (p : Packet) : (rRxFin p s).result = s.result := rfl
@[simp] theorem rRxFin_env (p : Packet) : (rRxFin p s).env = s.env := rfl
@[simp] theorem rRxFin_chanSR (p : Packet) : (rRxFin p s).chanSR = s.chanSR := rfl

@[simp] theorem rClose_snd : (rClose s).snd = s.snd := by simp [rClose]
@[simp] theorem rClose_pld : (rClose s).pld = s.pld := by simp [rClose]
@[simp] theorem rClose_cfg : (rClose s).cfg = s.cfg := by simp [rClose]
@[simp] theorem rClose_cntS : (rClose s).cntS = s.cntS := by simp [rClose]
@[simp] theorem rClose_src : (rClose s).src = s.src := by simp [rClose]
@[simp] theorem rClose_logS : (rClose s).logS = s.logS := by simp [rClose]
@[simp] theorem rClose_sumS : (rClose s).sumS = s.sumS := by simp [rClose]
@[simp] theorem rClose_now : (rClose s).now = s.now := by simp [rClose]
@[simp] theorem rClose_result : (rClose s).result = s.result := by simp [rClose]
@[simp] theorem rClose_env : (rClose s).env = s.env := by simp [rClose]
@[simp] theorem rClose_chanSR : (rClose s).chanSR = s.chanSR := by simp [rClose]

@[simp] theorem rRxLastack_snd (p : Packet) : (rRxLastack p s).snd = s.snd := rfl
@[simp] theorem rRxLastack_pld (p : Packet) : (rRxLastack p s).pld = s.pld := rfl
@[simp] theorem rRxLastack_cfg (p : Packet) : (rRxLastack p s).cfg = s.cfg := rfl
@[simp] theorem rRxLastack_cntS (p : Packet) : (rRxLastack p s).cntS = s.cntS := rfl
@[simp] theorem rRxLastack_src (p : Packet) : (rRxLastack p s).src = s.src := rfl
@[simp] theorem rRxLastack_logS (p : Packet) : (rRxLastack p s).logS = s.logS := rfl
@[simp] theorem rRxLastack_sumS (p : Packet) : (rRxLastack p s).sumS = s.sumS := rfl
@[simp] theorem rRxLastack_now (p : Packet) : (rRxLastack p s).now = s.now := rfl
@[simp] theorem rRxLastack_result (p : Packet) : (rRxLastack p s).result = s.result := rfl
@[simp] theorem rRxLastack_env (p : Packet) : (rRxLastack p s).env = s.env := rfl
@[simp] theorem rRxLastack_chanSR (p : Packet) : (rRxLastack p s).chanSR = s.chanSR := rfl

@[simp] theorem rRxDiscard_snd (p : Packet) : (rRxDiscard p s).snd = s.snd := rfl
@[simp] theorem rRxDiscard_pld (p : Packet) : (rRxDiscard p s).pld = s.pld := rfl
@[simp] theorem rRxDiscard_cfg (p : Packet) : (rRxDiscard p s).cfg = s.cfg := rfl
@[simp] theorem rRxDiscard_cntS (p : Packet) : (rRxDiscard p s).cntS = s.cntS := rfl
@[simp] theorem rRxDiscard_src (p : Packet) : (rRxDiscard p s).src = s.src := rfl
@[simp] theorem rRxDiscard_logS (p : Packet) : (rRxDiscard p s).logS = s.logS := rfl
@[simp] theorem rRxDiscard_sumS (p : Packet) : (rRxDiscard p s).sumS = s.sumS := rfl
@[simp] theorem rRxDiscard_now (p : Packet) : (rRxDiscard p s).now = s.now := rfl
@[simp] theorem rRxDiscard_result (p : Packet) : (rRxDiscard p s).result = s.result := rfl
@[simp] theorem rRxDiscard_env (p : Packet) : (rRxDiscard p s).env = s.env := rfl
@[simp] theorem rRxDiscard_chanSR (p : Packet) : (rRxDiscard p s).chanSR = s.chanSR := rfl

@[simp] theorem rDispatch_snd (p : Packet) : (rDispatch p s).snd = s.snd := by unfold rDispatch; split <;> simp
@[simp] theorem rDispatch_pld (p : Packet) : (rDispatch p s).pld = s.pld := by unfold rDispatch; split <;> simp
@[simp] theorem rDispatch_cfg (p : Packet) : (rDispatch p s).cfg = s.cfg := by unfold rDispatch; split <;> simp
@[simp] theorem rDispatch_cntS (p : Packet) : (rDispatch p s).cntS = s.cntS := by unfold rDispatch; split <;> simp
@[simp] theorem rDispatch_src (p : Packet) : (rDispatch p s).src = s.src := by unfold rDispatch; split <;> simp
@[simp] theorem rDispatch_logS (p : Packet) : (rDispatch p s).logS = s.logS := by unfold rDispatch; split <;> simp
@[simp] theorem rDispatch_sumS (p : Packet) : (rDispatch p s).sumS = s.sumS := by unfold rDispatch; split <;> simp
@[simp] theorem rDispatch_now (p : Packet) : (rDispatch p s).now = s.now := by unfold rDispatch; split <;> simp
@[simp] theorem rDispatch_result (p : Packet) : (rDispatch p s).result = s.result := by unfold rDispatch; split <;> simp
@[simp] theorem rDispatch_env (p : Packet) : (rDispatch p s).env = s.env := by unfold rDispatch; split <;> simp
@[simp] theorem rDispatch_chanSR (p : Packet) : (rDispatch p s).chanSR = s.chanSR := by unfold rDispatch; split <;> simp

@[simp] theorem rReceive_snd (b : Bytes) : (rReceive b s).snd = s.snd := by unfold rReceive; split <;> simp
@[simp] theorem rReceive_pld (b : Bytes) : (rReceive b s).pld = s.pld := by unfold rReceive; split <;> simp
@[simp] theorem rReceive_cfg (b : Bytes) : (rReceive b s).cfg = s.cfg := by unfold rReceive; split <;> simp
@[simp] theorem rReceive_cntS (b : Bytes) : (rReceive b s).cntS = s.cntS := by unfold rReceive; split <;> simp
@[simp] theorem rReceive_src (b : Bytes) : (rReceive b s).src = s.src := by unfold rReceive; split <;> simp
@[simp] theorem rReceive_logS (b : Bytes) : (rReceive b s).logS = s.logS := by unfold rReceive; split <;> simp
@[simp] theorem rReceive_sumS (b : Bytes) : (rReceive b s).sumS = s.sumS := by unfold rReceive; split <;> simp
@[simp] theorem rReceive_now (b : Bytes) : (rReceive b s).now = s.now := by unfold rReceive; split <;> simp
@[simp] theorem rReceive_result (b : Bytes) : (rReceive b s).result = s.result := by unfold rReceive; split <;> simp
@[simp] theorem rReceive_env (b : Bytes) : (rReceive b s).env = s.env := by unfold rReceive; split <;> simp
@[simp] theorem rReceive_chanSR (b : Bytes) : (rReceive b s).chanSR = s.chanSR := by unfold rReceive; split <;> simp

/-! ### Polls -/

/-- What `R.RX` can do: nothing, or the rule of the datagram it removed from `chan.SR`. -/
theorem rRx_cases (pick : Nat) :
    rRx pick s = s ∨ ∃ b, rcvPolls s.rcv.phase = true ∧ s.chanSR[pollIndex pick]? = some b ∧
      rRx pick s = rReceive b (s.withChanSR (s.chanSR.eraseIdx (pollIndex pick))) := by
  unfold rRx chanPoll
  split_ifs with h
  · simp only [chanGet]
    rcases hq : s.chanSR[pollIndex pick]? with _ | b
    · exact .inl rfl
    · exact .inr ⟨b, h, rfl, rfl⟩
  · exact .inl rfl

/-- What `S.RX` can do: nothing, or the rule of the datagram it removed from `chan.RS`. -/
theorem sRx_cases (pick : Nat) :
    sRx pick s = s ∨ ∃ b, sndPolls s.snd.phase = true ∧ s.chanRS[pollIndex pick]? = some b ∧
      sRx pick s = sReceive b (s.withChanRS (s.chanRS.eraseIdx (pollIndex pick))) := by
  unfold sRx chanPoll
  split_ifs with h
  · simp only [chanGet]
    rcases hq : s.chanRS[pollIndex pick]? with _ | b
    · exact .inl rfl
    · exact .inr ⟨b, h, rfl, rfl⟩
  · exact .inl rfl

/-- What a datagram handed to the receiver can do. -/
theorem pollDatagram_sr (b : Bytes) :
    pollDatagram .sr b s = s ∨ (rcvPolls s.rcv.phase = true ∧ pollDatagram .sr b s = rReceive b s) := by
  simp only [pollDatagram]
  split_ifs with h
  · exact .inr ⟨h, rfl⟩
  · exact .inl rfl

/-- What a datagram handed to the sender can do. -/
theorem pollDatagram_rs (b : Bytes) :
    pollDatagram .rs b s = s ∨ (sndPolls s.snd.phase = true ∧ pollDatagram .rs b s = sReceive b s) := by
  simp only [pollDatagram]
  split_ifs with h
  · exact .inr ⟨h, rfl⟩
  · exact .inl rfl

/-- What a receive step of the receiver can do: the corruption rule, or the dispatch of the packet it logged. -/
theorem rReceive_cases (b : Bytes) :
    (∃ c, decodeFrame s.cfg.payloadMax b = .error c ∧ rReceive b s = rRxCorrupt b c s) ∨
      ∃ p, decodeFrame s.cfg.payloadMax b = .ok p ∧ rReceive b s = rDispatch p (logRcv (packetRec s.now p) s) := by
  unfold rReceive
  rcases decodeFrame s.cfg.payloadMax b with c | p
  · exact .inl ⟨c, rfl, rfl⟩
  · exact .inr ⟨p, rfl, rfl⟩

/-- What a receive step of the sender can do: the corruption rule, or the dispatch of the packet it logged. -/
theorem sReceive_cases (b : Bytes) :
    (∃ c, decodeFrame s.cfg.payloadMax b = .error c ∧ sReceive b s = sRxCorrupt b c s) ∨
      ∃ p, decodeFrame s.cfg.payloadMax b = .ok p ∧ sReceive b s = sDispatch p (logSnd (packetRec s.now p) s) := by
  unfold sReceive
  rcases decodeFrame s.cfg.payloadMax b with c | p
  · exact .inl ⟨c, rfl, rfl⟩
  · exact .inr ⟨p, rfl, rfl⟩

end Sys2Proof.Machine
end

