-- ==== Sys2Proof/Laws/PerInstr.lean ====
section
/-! SUPPORT. Statements about each operation as syntax, one lemma per constructor. -/

namespace Sys2Proof.Laws.SlotKeepsKind

open Sys2Proof Sys2Proof.Machine

/-- The slot of an operation keeps its kind and its operands: the code of an operation slot names the operation
again, and a frame slot holds bytes whose cut is the operand and whose flag bytes select its type. -/
def Statement (i : Instr) : Prop :=
  match Sys2Proof.encode i with
  | .event c o => opOfCode c o = some i
  | .frame d b =>
    match i with
    | .syn e w => d = e ∧ wireAt b = w ∧ frameType b = wireType w
    | .synack e w => d = e ∧ wireAt b = w ∧ frameType b = wireType w
    | .ack e w => d = e ∧ wireAt b = w ∧ frameType b = wireType w
    | .data e w => d = e ∧ wireAt b = w ∧ frameType b = wireType w
    | .fin e w => d = e ∧ wireAt b = w ∧ frameType b = wireType w
    | _ => False

theorem syn (dir : Dir) (w : WireFrame) : Statement (.syn dir w) := ⟨rfl, wireAt_wireBytes w, rfl⟩

theorem synack (dir : Dir) (w : WireFrame) : Statement (.synack dir w) := ⟨rfl, wireAt_wireBytes w, rfl⟩

theorem ack (dir : Dir) (w : WireFrame) : Statement (.ack dir w) := ⟨rfl, wireAt_wireBytes w, rfl⟩

theorem data (dir : Dir) (w : WireFrame) : Statement (.data dir w) := ⟨rfl, wireAt_wireBytes w, rfl⟩

theorem fin (dir : Dir) (w : WireFrame) : Statement (.fin dir w) := ⟨rfl, wireAt_wireBytes w, rfl⟩

theorem encode (p : Packet) : Statement (.encode p) := rfl

theorem decode (f : Bytes) : Statement (.decode f) := rfl

theorem flip6 (f : Bytes) : Statement (.flip6 f) := rfl

theorem classify (p : Packet) : Statement (.classify p) := rfl

theorem pldSubmit (f : Bytes) (ty : FrameType) (dest : Addr) (retx : Bool) : Statement (.pldSubmit f ty dest retx) := rfl

theorem pldProcess (f : Bytes) (dest : Addr) (retx : Bool) : Statement (.pldProcess f dest retx) := rfl

theorem pldDrop (f : Bytes) (retx : Bool) : Statement (.pldDrop f retx) := rfl

theorem pldDup (f : Bytes) (dest : Addr) (retx : Bool) : Statement (.pldDup f dest retx) := rfl

theorem pldCorrupt (f : Bytes) (dest : Addr) (retx : Bool) : Statement (.pldCorrupt f dest retx) := rfl

theorem pldHold (f : Bytes) (dest : Addr) (retx : Bool) : Statement (.pldHold f dest retx) := rfl

theorem pldDelay (f : Bytes) (dest : Addr) (retx : Bool) : Statement (.pldDelay f dest retx) := rfl

theorem pldPass (f : Bytes) (dest : Addr) (retx : Bool) : Statement (.pldPass f dest retx) := rfl

theorem pldTickheld : Statement .pldTickheld := rfl

theorem dlyFire (m : Pending) : Statement (.dlyFire m) := rfl

theorem pldBypass (f : Bytes) (dest : Addr) : Statement (.pldBypass f dest) := rfl

theorem xmit (f : Bytes) (dest : Addr) : Statement (.xmit f dest) := rfl

theorem sOpen : Statement .sOpen := rfl

theorem sRx (pick : Nat) : Statement (.sRx pick) := rfl

theorem sRxCorrupt (b : Bytes) (c : Cause) : Statement (.sRxCorrupt b c) := rfl

theorem sRxSynack (p : Packet) : Statement (.sRxSynack p) := rfl

theorem sHsack : Statement .sHsack := rfl

theorem sSend : Statement .sSend := rfl

theorem sRxAck (p : Packet) : Statement (.sRxAck p) := rfl

theorem sAckFwd (a : Nat) : Statement (.sAckFwd a) := rfl

theorem sAckStale (a : Nat) : Statement (.sAckStale a) := rfl

theorem sFastretx (a : Nat) : Statement (.sFastretx a) := rfl

theorem sTimeout : Statement .sTimeout := rfl

theorem sFin : Statement .sFin := rfl

theorem sRxFinack (p : Packet) : Statement (.sRxFinack p) := rfl

theorem sRxPeerfin (p : Packet) : Statement (.sRxPeerfin p) := rfl

theorem sRxDiscard (p : Packet) : Statement (.sRxDiscard p) := rfl

theorem rRx (pick : Nat) : Statement (.rRx pick) := rfl

theorem rRxCorrupt (b : Bytes) (c : Cause) : Statement (.rRxCorrupt b c) := rfl

theorem rRxSyn (p : Packet) : Statement (.rRxSyn p) := rfl

theorem rSynack : Statement .rSynack := rfl

theorem rRxHsack (p : Packet) : Statement (.rRxHsack p) := rfl

theorem rRxData (p : Packet) : Statement (.rRxData p) := rfl

theorem rDataInorder (p : Packet) : Statement (.rDataInorder p) := rfl

theorem rDataOoo (p : Packet) : Statement (.rDataOoo p) := rfl

theorem rRxFin (p : Packet) : Statement (.rRxFin p) := rfl

theorem rClose : Statement .rClose := rfl

theorem rRxLastack (p : Packet) : Statement (.rRxLastack p) := rfl

theorem rRxDiscard (p : Packet) : Statement (.rRxDiscard p) := rfl

theorem cmdReset : Statement .cmdReset := rfl

theorem cmdStart : Statement .cmdStart := rfl

theorem cmdCfgwr (w : CfgWrite) : Statement (.cmdCfgwr w) := rfl

theorem clockAdvance (dt : Time) : Statement (.clockAdvance dt) := rfl

theorem chanLose (dir : Dir) (i : Nat) : Statement (.chanLose dir i) := rfl

end Sys2Proof.Laws.SlotKeepsKind
end

