-- ==== Sys2Proof/Laws/Step.lean ====
section
/-! SUPPORT. What one step can do: once for every statement about all steps. -/

namespace Sys2Proof.Machine

open Sys2Proof

/-- The operands of a decoded operation lie in their types. -/
theorem decode_wf (pm : Nat) (slot : Slot) (i : Instr) (h : decode pm slot = .ok i) :
    i.wf pm = true := by
  cases slot with
  | event c o =>
    simp only [decode, decodeEvent] at h
    split at h
    · cases h
    · cases h
      rename_i hi
      revert hi
      unfold opOfCode
      split <;> intro hi <;> cases hi <;> rfl
  | frame d b =>
    simp only [decode, decodeDatagram] at h
    split_ifs at h with h1 h2
    have hw : ∀ ty, frameType b = ty → wireOk pm ty (wireAt b) = true := by
      intro ty e
      have e2 : wireType (wireAt b) = frameType b := rfl
      have hl : (wireAt b).payload.length = b.length - 32 := List.length_drop
      have h3 : b.length ≤ 32 + pm := Nat.le_of_not_lt h2
      simp only [wireOk, e2, e, hl, beq_self_eq_true, Bool.true_and, decide_eq_true_eq]
      omega
    split at h <;> cases h <;> simp [Instr.wf, hw _ ‹_›]

/-- A step changes nothing, or runs a decoded operation, or polls a datagram that no operation stands for, each
on the state without the schedule's head. -/
theorem step_cases (s t : State) (h : step s = .next t) :
    t = s ∨ ∃ slot rest, s.env.sched = slot :: rest ∧
      ((∃ i, decode s.cfg.payloadMax slot = .ok i ∧ i.wf s.cfg.payloadMax = true ∧
          exec i (s.withEnv { s.env with sched := rest }) = .next t) ∨
        ∃ d b, slot = .frame d b ∧ t = pollDatagram d b (s.withEnv { s.env with sched := rest })) := by
  unfold step fetch at h
  rcases hs : s.env.sched with _ | ⟨slot, rest⟩
  · rw [hs] at h
    cases h
    exact .inl rfl
  · rw [hs] at h
    refine .inr ⟨slot, rest, rfl, ?_⟩
    dsimp only at h
    rcases hd : decode s.cfg.payloadMax slot with e | i
    · rw [hd] at h
      right
      cases slot with
      | event c o => cases h
      | frame d b =>
        cases h
        exact ⟨d, b, rfl, rfl⟩
    · rw [hd] at h
      exact .inl ⟨i, rfl, decode_wf _ slot i hd, h⟩

/-- The condition of R322, with the drained pending sends that R311 asks for. -/
theorem runEnded_iff (s : State) : runEnded s = true ↔
    s.snd.phase = .closed ∧ s.pld.pending = [] ∧ s.rcv.phase = .listen ∧ s.rcv.sinkOpen = false ∧ s.chanSR = [] := by
  simp [runEnded, senderOver, and_assoc]

/-- A run that has ended is observed at once (R322). -/
theorem endOfRun_of_runEnded (k : Nat) (s : State) (h : runEnded s = true) : endOfRun k s = some (observe s) := by
  cases k <;> simp [endOfRun, h]

end Sys2Proof.Machine
end

