-- ==== Sys2Proof/Tests/Slice0.lean ====
section
/-! SUPPORT. Tests of the model's author. Expected values come from 95_test_vectors.md, whose section is named at each
group, or from a rule's own example; a witness shows that a statement's hypotheses can be met. -/

namespace Sys2Proof.Tests

open Sys2Proof Sys2Proof.Machine

/- One theorem after the other: checked all at once, this file's theorems ask for more threads than the checks allow. -/
set_option Elab.async false

/-! ### Helpers -/

/-- The next state of an operation. -/
def after (i : Instr) (s : State) : State :=
  match exec i s with
  | .next t => t
  | _ => s

def local1 : Addr := ⟨0x7F#8, 0#8, 0#8, 1#8⟩

/-- A packet with the addresses of the vectors. -/
def pkt (ty : FrameType) (seq ack win : U32) (payload : Bytes) : Packet :=
  ⟨local1, local1, seq, ack, win, synOfType ty, ackOfType ty, finOfType ty, 0#64, payload⟩

/-- The configuration of the vectors: window 200, segments of 40, factor 4. -/
def cfg0 : Cfg := { Cfg.reset with window := 200, mss := 40, gamma := 4 }

def st0 : State := { State.reset with cfg := cfg0, snd := { Snd.reset with ertt := 1/2, drtt := 1/4 } }

/-- A sender in a phase, with 100 source bytes at sequence numbers 1 to 100. -/
def atSnd (ph : SndPhase) : State :=
  { st0 with
    cfg := { cfg0 with srcLen := 100 }
    snd := { st0.snd with
      phase := ph, chanOpen := chanPhase ph, base := 1, una := 1, nxt := 1, max := 1, rcvNxt := 1
      cycleEnd := 1 } }

/-- A receiver in a phase, expecting sequence number 1. -/
def atRcv (ph : RcvPhase) : State :=
  { st0 with rcv := { st0.rcv with phase := ph, sinkOpen := sinkPhase ph, rcvNxt := 1 } }

/-- The sender of vector 3.2. -/
def sw (w una nxt mx : Nat) : State :=
  let s := atSnd .dataTransfer
  { s with
    cfg := { s.cfg with window := w }
    snd := { s.snd with una := una, nxt := nxt, max := mx }
    env := { s.env with draws := [1/2, 1/2, 1/2, 1/2, 1/2] } }

/-- The sender of vector 3.3. -/
def sa (nxt : Nat) : State :=
  let s := sw 200 41 nxt 101
  { s with snd := { s.snd with outq := [⟨41, 40, 0, false⟩, ⟨81, 20, 0, false⟩] } }

/-- The injector of section 5, with a queue of draws. -/
def inj (draws : List Rat) (held : Option Held) : State :=
  let s := atSnd .dataTransfer
  { s with
    cfg := { s.cfg with
      pDrop := 1/2, pDuplicate := 1/2, pCorrupt := 1/2, pReorder := 1/2, pDelay := 1/2
      reorderMaxDelay := 2, delayMaxDelay := 3 }
    pld := { s.pld with held := held }
    now := 1/200
    env := { s.env with draws := draws, delays := [2] } }

/-- 36 bytes of the `DATA` frame of section 5, its checksum bytes left at zero. -/
def f5 : Bytes :=
  [0x7F, 0, 0, 1, 0x7F, 0, 0, 1, 0, 0, 0, 1, 0, 0, 0, 1, 0, 0, 0, 8, 0, 0, 0, 0, 0, 0, 0, 0, 0, 0, 0, 0, 0x48,
    0x45, 0x4C, 0x4C]

def heldA : Held := ⟨List.replicate 32 0#8, local1, false⟩

/-- A frame slot's operand with the flag bytes of a type and everything else zero. -/
def wire (ty : FrameType) : WireFrame := wireAt (encodeFrame 40 (pkt ty 7#32 101#32 0#32 [])).1

/-! ### WellFormed: each check refuses an ill-formed term, for each of the five frame rows -/

theorem test_wf_type_of_frame :
    [Instr.syn .sr (wire .ack), .synack .rs (wire .syn), .ack .sr (wire .data), .data .sr (wire .fin),
      .fin .sr (wire .syn), .data .sr (wireAt ((List.replicate 32 0#8).set 22 2#8))].map (Instr.wf 40) =
      List.replicate 6 false := rfl

/-- A payload above the bound, and the same payload under a wider one. -/
theorem test_wf_payload_of_frame : (Instr.data .sr (wireAt (List.replicate 73 0#8))).wf 40 = false ∧
    (Instr.data .sr (wireAt (List.replicate 73 0#8))).wf 50 = true ∧
    (Instr.syn .sr { wire .syn with payload := List.replicate 41 0#8 }).wf 40 = false ∧
    (Instr.synack .rs { wire .synack with payload := List.replicate 41 0#8 }).wf 40 = false ∧
    (Instr.ack .sr { wire .ack with payload := List.replicate 41 0#8 }).wf 40 = false ∧
    (Instr.fin .sr { wire .fin with payload := List.replicate 41 0#8 }).wf 40 = false :=
  ⟨rfl, rfl, rfl, rfl, rfl, rfl⟩

/-! ### Decode: words written out from R104, R99 and R91 -/

theorem test_decode_codec :
    decodeTableWord 8 0b00000000 = some (.encode Packet.zero) ∧ decodeTableWord 8 0b00000001 = some (.decode []) ∧
      decodeTableWord 8 0b00000010 = some (.flip6 (List.replicate 32 0#8)) ∧
      decodeTableWord 8 0b00000011 = some (.classify Packet.zero) ∧ decodeTableWord 8 0b00000100 = none := by
  decide +kernel

theorem test_decode_injector :
    (List.range 12).map (fun k => (decodeTableWord 8 (0b00100000 + k)).isSome) = List.replicate 12 true ∧
      decodeTableWord 8 0b00100010 = some (.pldDrop (List.replicate 32 0#8) false) ∧
      decodeTableWord 8 0b00101001 = some (.dlyFire ⟨List.replicate 32 0#8, Quad.zero, 0⟩) ∧
      decodeTableWord 8 0b00101011 = some (.xmit (List.replicate 32 0#8) Quad.zero) ∧
      decodeTableWord 8 0b00101100 = none := by
  decide +kernel

theorem test_decode_sender :
    decodeTableWord 8 0b01000000 = some .sOpen ∧ decodeTableWord 8 0b01000001 = some (.sRx 0) ∧
      decodeTableWord 8 0b01000010 = some (.sRxCorrupt [] .short) ∧
      decodeTableWord 8 0b01000100 = some .sHsack ∧ decodeTableWord 8 0b01000111 = some (.sAckFwd 0) ∧
      decodeTableWord 8 0b01001000 = some (.sAckStale 0) ∧ decodeTableWord 8 0b01001001 = some (.sFastretx 0) ∧
      decodeTableWord 8 0b01001010 = some .sTimeout ∧ decodeTableWord 8 0b01001011 = some .sFin ∧
      decodeTableWord 8 0b01001110 = some (.sRxDiscard Packet.zero) := by
  decide +kernel

theorem test_decode_receiver :
    decodeTableWord 8 0b01100000 = some (.rRx 0) ∧ decodeTableWord 8 0b01100010 = some (.rRxSyn Packet.zero) ∧
      decodeTableWord 8 0b01100011 = some .rSynack ∧
      decodeTableWord 8 0b01100110 = some (.rDataInorder Packet.zero) ∧
      decodeTableWord 8 0b01100111 = some (.rDataOoo Packet.zero) ∧
      decodeTableWord 8 0b01101011 = some (.rRxDiscard Packet.zero) ∧ decodeTableWord 8 0b01101100 = none := by
  decide +kernel

theorem test_decode_environment :
    decodeTableWord 8 0b10000000 = some .cmdReset ∧ decodeTableWord 8 0b10000001 = some .cmdStart ∧
      decodeTableWord 8 0b10000010 = some (.cmdCfgwr (.sLocal Quad.zero)) ∧
      decodeTableWord 8 0b10000011 = some (.clockAdvance 0) ∧ decodeTableWord 8 0b10000100 = some (.chanLose .sr 0) := by
  decide +kernel

theorem test_decode_frame_types :
    (decodeTableWord 24 0x010000).map (fun i => i matches .syn .sr _) = some true ∧
      (decodeTableWord 24 0x010100).map (fun i => i matches .synack .rs _) = some true ∧
      (decodeTableWord 24 0x000100).map (fun i => i matches .ack .sr _) = some true ∧
      (decodeTableWord 24 0x000000).map (fun i => i matches .data .sr _) = some true ∧
      (decodeTableWord 24 0x000001).map (fun i => i matches .fin .sr _) = some true ∧
      decodeTableWord 24 0x000101 = none ∧ decodeTableWord 24 0x010001 = none ∧ decodeTableWord 24 0x010101 = none := by
  decide +kernel

/-- V1 of section 2.1 as a datagram: a `SYN` with its fields at the offsets of R62. -/
theorem test_decode_v1 :
    decode 40 (.frame .sr
      [0x7F, 0, 0, 1, 0x7F, 0, 0, 1, 0, 0, 0, 0, 0, 0, 0, 0, 0, 0, 0, 0xC8, 1, 0, 0, 0, 0, 0, 0, 0, 0xEC, 0x37, 0xF1,
        0x43]) =
      .ok (.syn .sr ⟨local1, local1, 0, 0, 200, 1, 0, 0, 0, 3963089219#64, []⟩) := by
  decide +kernel

theorem test_step_runs_first_word :
    (match step (State.reset.withFetchWord 8 0b10000011) with
      | .next t => t.env.sched.length
      | _ => 1) = 0 := by decide +kernel

/-! ### CODEC (section 2) -/

/-- The check value of R137. -/
theorem test_digest_check : digest4Ref [0x31, 0x32, 0x33, 0x34, 0x35, 0x36, 0x37, 0x38, 0x39] = ⟨0xCB, 0xF4, 0x39, 0x26⟩ := by
  decide +kernel

theorem test_encode_v1 :
    (encodeFrameWith digest4Ref (pkt .syn 0 0 200 [])).1 =
      [0x7F, 0, 0, 1, 0x7F, 0, 0, 1, 0, 0, 0, 0, 0, 0, 0, 0, 0, 0, 0, 0xC8, 1, 0, 0, 0, 0, 0, 0, 0, 0xEC, 0x37, 0xF1,
        0x43] := by
  decide +kernel

theorem test_encode_v4 :
    encodeFrameWith digest4Ref (pkt .data 1 1 200 [0x68, 0x65, 0x6C, 0x6C, 0x6F]) =
      ([0x7F, 0, 0, 1, 0x7F, 0, 0, 1, 0, 0, 0, 1, 0, 0, 0, 1, 0, 0, 0, 0xC8, 0, 0, 0, 0, 0, 0, 0, 0, 0x75, 0x40, 0x09,
        0xAE, 0x68, 0x65, 0x6C, 0x6C, 0x6F],
        { pkt .data 1 1 200 [0x68, 0x65, 0x6C, 0x6C, 0x6F] with checksum := 1967131054#64 }) := by
  decide +kernel

/-- V7: extreme fields, and the damaged byte 6. -/
theorem test_encode_flip_v7 :
    (flip6 (encodeFrameWith digest4Ref
      ⟨⟨0xFF, 0xFF, 0xFF, 0xFF⟩, ⟨0, 0, 0, 0⟩, 4294967295, 4294967295, 4294967295, false, false, false, 0, []⟩).1) =
      [0xFF, 0xFF, 0xFF, 0xFF, 0, 0, 0x65, 0, 0xFF, 0xFF, 0xFF, 0xFF, 0xFF, 0xFF, 0xFF, 0xFF, 0xFF, 0xFF, 0xFF, 0xFF, 0, 0,
        0, 0, 0, 0, 0, 0, 0xF8, 0x1A, 0xAF, 0x40] := by
  decide +kernel

/-- V10 and the `LONG` test of V15: the length tests come before the digest test. -/
theorem test_decode_lengths :
    exec (.decode (List.replicate 31 0#8)) st0 = .next { st0 with result := .corruption .short } ∧
      exec (.decode (List.replicate 73 0#8)) st0 = .next { st0 with result := .corruption .long } := ⟨rfl, rfl⟩

/-- The frame of V15. -/
def v15 : Bytes :=
  [0x7F, 0, 0, 1, 0x7F, 0, 0, 1, 0, 0, 0, 1, 0, 0, 0, 1, 0, 0, 0, 0xC8, 0, 0, 0, 0, 0, 0, 0, 0, 0x5A, 0x42, 0xC1, 0x96] ++
    (List.range 41).map (BitVec.ofNat 8)

/-- The test digest of V15's frame, in three parts for the kernel's sake. -/
theorem v15_digest : digest4Ref (zerock v15) = ⟨0x96, 0xC1, 0x42, 0x5A⟩ := by
  have h1 : ((zerock v15).take 25).foldl crcByte 0xFFFFFFFF#32 = 0xb4ab5d7f#32 := by decide +kernel
  have h2 : (((zerock v15).drop 25).take 25).foldl crcByte 0xb4ab5d7f#32 = 0x2431217c#32 := by decide +kernel
  have h3 : ((zerock v15).drop 50).foldl crcByte 0x2431217c#32 ^^^ 0xFFFFFFFF#32 = 0x96C1425A#32 := by decide +kernel
  have h : zerock v15 = (zerock v15).take 25 ++ (((zerock v15).drop 25).take 25 ++ (zerock v15).drop 50) := by
    decide +kernel
  rw [digest4Ref, h, List.foldl_append, List.foldl_append, h1, h2, h3]
  rfl

/-- V15 and V16: one payload byte too many under `PAYLOAD_MAX = 40`, and within it under 50. -/
theorem test_decode_v15_v16 : decodeFrameWith 40 digest4Ref v15 = .error .long ∧
    decodeFrameWith 50 digest4Ref v15 =
      .ok { pkt .data 1 1 200 ((List.range 41).map (BitVec.ofNat 8)) with checksum := 0x5A42C196#64 } := by
  refine ⟨rfl, ?_⟩
  rw [decodeFrameWith, v15_digest, if_neg (by decide), if_neg (by decide), if_neg (by decide)]
  exact congrArg Except.ok (by decide +kernel)

/-- V18: a flag byte 02 decodes to true, and encoding the packet again gives V1. -/
theorem test_decode_v18 :
    (decodeFrameWith 40 digest4Ref
      [0x7F, 0, 0, 1, 0x7F, 0, 0, 1, 0, 0, 0, 0, 0, 0, 0, 0, 0, 0, 0, 0xC8, 2, 0, 0, 0, 0, 0, 0, 0, 0x1C, 0xE5, 0x6F,
        0x34]).toOption = some { pkt .syn 0 0 200 [] with checksum := 0x1CE56F34#64 } := by
  decide +kernel

/-- V12 and V13: a changed last byte, and a non-zero high half of the checksum field. -/
theorem test_decode_digest_fails :
    (decodeFrameWith 40 digest4Ref
        [0x7F, 0, 0, 1, 0x7F, 0, 0, 1, 0, 0, 0, 0, 0, 0, 0, 0, 0, 0, 0, 0xC8, 1, 0, 0, 0, 0, 0, 0, 0, 0xEC, 0x37, 0xF1,
          0x44]).toOption = none ∧
      (decodeFrameWith 40 digest4Ref
        [0x7F, 0, 0, 1, 0x7F, 0, 0, 1, 0, 0, 0, 1, 0, 0, 0, 1, 0, 0, 0, 0xC8, 0, 1, 0, 0, 1, 0, 0, 0, 0x9E, 0xEC, 0xA6,
          0x01]).toOption = none := by
  decide +kernel

/-- Section 2.3. -/
theorem test_classify_table :
    [(true, false, false), (true, true, false), (false, true, false), (false, false, false), (false, false, true),
      (false, true, true), (true, false, true), (true, true, true)].map (fun b => typeOfFlags b.1 b.2.1 b.2.2) =
      [.syn, .synack, .ack, .data, .fin, .rsv, .rsv, .rsv] := by decide

theorem test_encode_refuses_41 :
    exec (.encode (pkt .data 0 0 0 (List.replicate 41 0#8))) st0 = .refused .payloadTooLong := rfl

/-- `FLIP6` on the shortest string of its domain (R139). -/
theorem test_flip_seven_bytes : exec (.flip6 [0, 1, 2, 3, 4, 5, 0x65]) st0 =
    .next { st0 with result := .flipped [0, 1, 2, 3, 4, 5, 0] } := rfl

/-! ### Injector (section 5) -/

/-- What the table's rows show: draws left, datagrams sent, the wait, members pending. -/
def shape (s : State) : Nat × Nat × Nat × Nat :=
  (s.env.draws.length, s.chanSR.length, s.pld.wait, s.pld.pending.length)

theorem test_i1_drop : shape (after (.pldProcess f5 local1 false) (inj [1/4, 0] (some heldA))) = (1, 0, 0, 0) ∧
    (after (.pldProcess f5 local1 false) (inj [1/4] none)).cntS.dropped = 1 := by decide +kernel

theorem test_i2_dup : shape (after (.pldProcess f5 local1 false) (inj [3/4, 1/4, 0] (some heldA))) = (1, 2, 1, 0) ∧
    (after (.pldProcess f5 local1 false) (inj [3/4, 1/4] none)).chanSR = [f5, f5] := by decide +kernel

theorem test_i3_corrupt : (after (.pldProcess f5 local1 false) (inj [3/4, 3/4, 1/4] none)).chanSR = [f5.set 6 0x65#8] ∧
    (after (.pldProcess f5 local1 false) (inj [3/4, 3/4, 1/4] none)).cntS.corrupted = 1 := by decide +kernel

theorem test_i4_hold : (after (.pldProcess f5 local1 true) (inj [3/4, 3/4, 3/4, 1/4, 0] none)).pld.held =
      some ⟨f5, local1, true⟩ ∧
    shape (after (.pldProcess f5 local1 true) (inj [3/4, 3/4, 3/4, 1/4, 0] none)) = (1, 0, 0, 0) := by decide +kernel

theorem test_i5_delay : (after (.pldProcess f5 local1 false) (inj [3/4, 3/4, 3/4, 3/4, 1/4] none)).pld.pending =
    [⟨f5, local1, 401/200⟩] := by decide +kernel

theorem test_i8_no_reorder_draw :
    shape (after (.pldProcess f5 local1 false) (inj [3/4, 3/4, 3/4, 1/4, 0] (some heldA))) = (1, 0, 1, 1) := by
  decide +kernel

/-- I6, I9: a draw equal to the probability does not succeed; a pass sends once after five draws. -/
theorem test_i6_pass : shape (after (.pldProcess f5 local1 false) (inj [1/2, 3/4, 3/4, 3/4, 3/4, 0] none)) = (1, 1, 0, 0) ∧
    (after (.pldProcess f5 local1 false) (inj [1/2, 3/4, 3/4, 3/4, 3/4] none)).logS.map (·.tag) = [.sent false] := by
  decide +kernel

/-- H1: the held frame follows the second later send. -/
theorem test_h1_flush :
    (after (.pldPass f5 local1 false) (inj [] (some heldA))).chanSR = [f5] ∧
      (after .pldTickheld (after (.pldPass f5 local1 false) (after .pldTickheld (inj [] (some heldA))))).chanSR =
        [f5, heldA.frame] := by decide +kernel

/-- I10 and `XMIT` in `CLOSED` (R162). -/
theorem test_bypass_and_closed_xmit :
    (after (.pldSubmit f5 .syn local1 false) (inj [0, 0] none)).env.draws.length = 2 ∧
      (after (.pldSubmit f5 .syn local1 false) (inj [0, 0] none)).logS.map (·.tag) = [.snd] ∧
      (after (.xmit f5 local1) (atSnd .closed)).chanSR = [] := by decide +kernel

/-- `DLY.FIRE` before its time, at its time, and with the channel closed. -/
def dly (t : Time) (ph : SndPhase) : State :=
  { atSnd ph with now := t, pld := ⟨none, 0, [⟨f5, local1, 401/200⟩]⟩ }

theorem test_dly_fire :
    (after (.dlyFire ⟨f5, local1, 401/200⟩) (dly 2 .dataTransfer)).chanSR = [] ∧
      (after (.dlyFire ⟨f5, local1, 401/200⟩) (dly (401/200) .dataTransfer)).chanSR = [f5] ∧
      (after (.dlyFire ⟨f5, local1, 401/200⟩) (dly 3 .closed)).logS.map (·.tag) = [.dlyfail] := by decide +kernel

/-! ### Sender (section 3) -/

def est (e d x : Rat) : Rat × Rat × Rat :=
  let s := rttUpdate x { st0 with snd := { st0.snd with ertt := e, drtt := d } }
  (s.snd.ertt, s.snd.drtt, rtoOf (1/5) 60 s.snd.ertt 4 s.snd.drtt)

theorem test_e1_e4_e6 : est (1/2) (1/4) (1/10) = (9/20, 11/40, 31/20) ∧ est (1/2) (1/4) 2 = (11/16, 33/64, 11/4) ∧
    est (219/500) (37/125) (3/500) = (48/125, 633/2000, 33/20) := by decide +kernel

theorem test_e8_e9_e10 : rtoOf (1/5) 60 (1/100) 4 (1/100) = 1/5 ∧ rtoOf (1/5) 60 50 4 5 = 60 ∧
    rtoOf (1/5) 60 (1/2) 0 (1/4) = 1/2 := by decide +kernel

theorem test_s1_to_s6 : sSendEnabled (sw 100 1 1 1) = true ∧ sSendEnabled (sw 100 1 81 81) = true ∧
    sSendEnabled (sw 90 1 81 81) = false ∧ sSendEnabled (sw 40 1 41 41) = false ∧
    sSendEnabled (sw 100 41 101 101) = false := by decide +kernel

/-- S3 and S7: the short last segment, and a resent one. -/
theorem test_s3_s7 : (after .sSend (sw 100 1 81 81)).snd.nxt = 101 ∧
    (after .sSend (sw 100 1 1 81)).snd.outq = [⟨1, 40, 0, true⟩] ∧
    (after .sSend (sw 100 1 1 81)).cntS.retxTimeout = 1 ∧ (after .sSend (sw 100 1 1 81)).snd.max = 81 := by
  decide +kernel

/-- A1 to A3, A7. -/
theorem test_forward_acks : (after (.sAckFwd 101) (sa 101)).snd.outq = [] ∧
    (after (.sAckFwd 81) (sa 101)).snd.outq = [⟨81, 20, 0, false⟩] ∧
    (after (.sAckFwd 60) (sa 101)).snd.outq = (sa 101).snd.outq ∧ (after (.sAckFwd 60) (sa 101)).snd.una = 60 ∧
    (after (.sAckFwd 81) (sa 41)).snd.nxt = 81 := by decide +kernel

/-- A4 to A6, through `S.RX_ACK`. -/
theorem test_stale_and_beyond : (after (.sRxAck (pkt .ack 1 41 0 [])) (sa 101)).snd.dupack = [(41, 1)] ∧
    (after (.sRxAck (pkt .ack 1 1 0 [])) (sa 101)).cntS.dupAcks = 1 ∧
    after (.sRxAck (pkt .ack 1 102 0 [])) (sa 101) = sa 101 := by decide +kernel

/-- Vector 3.6: three duplicate acknowledges, then one segment resent and the measurement spoiled. -/
def v36 : State :=
  let s := sw 120 1 101 101
  { s with
    snd := { s.snd with
      outq := [⟨1, 40, 1/200, false⟩, ⟨41, 40, 3/500, false⟩, ⟨81, 20, 7/1000, false⟩]
      timed := some ⟨41, 1/200, true, false⟩, dupack := [(1, 2)] }
    now := 11/1000 }

theorem test_fast_retransmit : (after (.sAckStale 1) v36).snd.dupack = [(1, 0)] ∧
    (after (.sAckStale 1) v36).snd.outq.head? = some ⟨1, 40, 11/1000, true⟩ ∧
    (after (.sAckStale 1) v36).snd.timed = some ⟨41, 1/200, false, false⟩ ∧
    (after (.sAckStale 1) v36).chanSR.length = 1 ∧ (after (.sAckStale 1) v36).snd.nxt = 101 ∧
    (after (.sFastretx 101) v36).chanSR = [] := by decide +kernel

/-- K1, K2: a cycle armed on the first segment, one sample, the next cycle armed behind it. -/
theorem test_k1_k2 :
    let s := { atSnd .dataTransfer with now := 9/1000 }
    let t := { s with snd := { s.snd with
      nxt := 9, max := 9, outq := [⟨1, 4, 1/200, false⟩, ⟨5, 4, 3/500, false⟩]
      timed := some ⟨5, 1/200, true, false⟩, cycleEnd := 5 } }
    (after (.sAckFwd 5) t).snd.ertt = 219/500 ∧ (after (.sAckFwd 5) t).snd.drtt = 37/125 ∧
      (after (.sAckFwd 5) t).snd.timed = some ⟨9, 3/500, true, false⟩ ∧ (after (.sAckFwd 5) t).snd.cycleEnd = 9 := by
  decide +kernel

/-- Vector 3.5: what a timeout leaves. -/
theorem test_timeout_effect : (sTimeout (sa 101)).snd.nxt = 41 ∧ (sTimeout (sa 101)).snd.outq = [] ∧
    (sTimeout (sa 101)).snd.max = 101 ∧ (sTimeout (sa 101)).logS.map (·.seq) = [some 41] := by decide +kernel

theorem test_handshake : (after (.sRxSynack (pkt .synack 4294967295 1 0 [])) (atSnd .synSent)).snd.rcvNxt = 0 ∧
    (after .sHsack (atSnd .established)).snd.phase = .dataTransfer ∧
    (after .sHsack (atSnd .established)).logS.map (fun r => (r.tag, r.ty, r.seq, r.ack)) =
      [(.snd, some .ack, some 1, some 1)] := by decide +kernel

/-- Vector 3.8 with `END = 101`: only the awaited frames count in `FIN_WAIT`. -/
def fw (acked : Bool) : State :=
  let s := atSnd .finWait
  { s with snd := { s.snd with una := 101, nxt := 101, max := 101, finAcked := acked } }

theorem test_teardown : after (.sRxFinack (pkt .ack 1 101 0 [])) (fw false) = fw false ∧
    (after (.sRxFinack (pkt .ack 1 102 0 [])) (fw false)).snd.finAcked = true ∧
    after (.sRxPeerfin (pkt .fin 1 0 0 [])) (fw false) = fw false := by decide +kernel

/-- A peer `FIN` with the largest number is answered by the number 0, and the sender closes. -/
theorem test_peerfin : (after (.sRxPeerfin (pkt .fin 4294967295 0 0 [])) (fw true)).logS.map (fun r => (r.seq, r.ack)) =
      [(some 102, some 0)] ∧
    (after (.sRxPeerfin (pkt .fin 4294967295 0 0 [])) (fw true)).snd.chanOpen = false ∧
    (after (.sRxPeerfin (pkt .fin 4294967295 0 0 [])) (fw true)).sumS = [CntS.zero] := by decide +kernel

theorem test_fin : (after .sFin (sw 200 101 101 101)).snd.phase = .finWait ∧
    (after .sFin (sw 200 101 101 101)).logS.map (·.seq) = [some 101] ∧ after .sFin (sw 200 1 101 101) = sw 200 1 101 101 := by
  decide +kernel

/-! ### Receiver (section 4) -/

def dat (seq : U32) (payload : Bytes) : Packet := pkt .data seq 1 8 payload

def q1 : State := after (.rRxData (dat 1 [0x48, 0x45, 0x4C, 0x4C])) (atRcv .established)
def q2 : State := after (.rRxData (dat 9 [0x21, 0x21])) q1
def q3 : State := after (.rRxData (dat 1 [0x48, 0x45, 0x4C, 0x4C])) q2

theorem test_q1 : q1.sink = [0x48, 0x45, 0x4C, 0x4C] ∧ q1.rcv.rcvNxt = 5 ∧ q1.logR.map (·.ack) = [some 5] ∧
    q1.cntR.segmentsReceived = 1 ∧ q1.rcv.obs = [(1, 1)] := by decide +kernel

theorem test_q3 : q3.sink = q1.sink ∧ q3.rcv.rcvNxt = 5 ∧ q3.logR.map (·.ack) = [some 5, some 5, some 5] ∧
    q3.cntR = ⟨3, 0, 1, 2⟩ ∧ q3.rcv.obs = [(1, 2), (9, 1)] := by decide +kernel

/-- Q8: the expected number wraps. -/
theorem test_q8 :
    let s := atRcv .established
    (after (.rDataInorder (dat 4294967294 [1, 2, 3, 4])) { s with rcv := { s.rcv with rcvNxt := 4294967294 } }).rcv.rcvNxt =
      2 := by decide +kernel

/-- Q9: the addresses of a `SYN` are swapped in the reply. -/
theorem test_q9 :
    let p := { pkt .syn 7 0 8 [] with src := ⟨0x0A, 0, 0, 1⟩, dst := ⟨0x0A, 0, 0, 2⟩ }
    let s := after (.rRxSyn p) (atRcv .listen)
    s.rcv.rcvNxt = 8 ∧ s.rcv.peer = ⟨0x0A, 0, 0, 1⟩ ∧ (after .rSynack s).logR.map (·.ack) = [some 8] ∧
      (after .rSynack s).chanRS.map (fun f => f.take 8) = [[0x0A, 0, 0, 2, 0x0A, 0, 0, 1]] := by decide +kernel

/-- Q10. -/
theorem test_q10 :
    let s := { atRcv .listen with cfg := { cfg0 with isnR := 4294967294 } }
    (after (.rRxSyn (pkt .syn 7 0 8 [])) s).rcv.cfgErr = true ∧
      (after (.rRxSyn (pkt .syn 7 0 8 [])) s).rcv.phase = .listen := by decide +kernel

/-- Q12, Q13. -/
theorem test_q12 :
    let s := after (.rRxFin (pkt .fin 4294967295 1 8 [])) (atRcv .established)
    s.rcv.finSeq = 4294967295 ∧ s.rcv.sinkOpen = false ∧
      (after .rClose s).logR.map (fun r => (r.ty, r.seq, r.ack)) =
        [(some .ack, some 1, some 0), (some .fin, some 1, some 0)] := by decide +kernel

/-- Q6, Q14: a short datagram polled in `ESTABLISHED` counts, in `LISTEN` it does not. -/
theorem test_q6_q14 :
    let short (ph : RcvPhase) : State := { atRcv ph with chanSR := [List.replicate 10 0#8] }
    (after (.rRx 0) (short .established)).cntR.segmentsCorrupt = 1 ∧ (after (.rRx 0) (short .established)).chanSR = [] ∧
      (after (.rRx 0) (short .listen)).cntR.segmentsCorrupt = 0 ∧
      (after (.rRx 0) (short .listen)).logR.map (fun r => (r.tag, r.len)) = [(.rcvbad .short, 10)] ∧
      (after (.rRx 0) (short .synRcvd)).chanSR.length = 1 := by decide +kernel

theorem test_last_ack : (after (.rRxLastack (pkt .ack 12 2 8 [])) (atRcv .lastAck)).rcv.phase = .listen ∧
    (after (.rRxLastack (pkt .ack 12 2 8 [])) (atRcv .lastAck)).sumR = [CntR.zero] ∧
    (after (.rRxHsack (pkt .ack 1 1 8 [])) (atRcv .awaitAck)).rcv.phase = .established := by decide +kernel

/-! ### Environment (section 6) -/

/-- X1, X8: a refused start leaves a sticky flag that a later start keeps. -/
theorem test_x1_x8 :
    let bad := after .cmdStart { st0 with cfg := { cfg0 with mss := 0 } }
    bad.snd.cfgErr = true ∧ bad.snd.phase = .idle ∧
      (after .cmdStart (after (.cmdCfgwr (.mss 40)) bad)).snd.phase = .synSent ∧
      (after .cmdStart (after (.cmdCfgwr (.mss 40)) bad)).snd.cfgErr = true := by decide +kernel

/-- 3.7 and more of X1: each check of R306 at its boundary. -/
theorem test_config_checks :
    senderConfigLegal { cfg0 with isnS := 4294967284, srcLen := 10 } = false ∧
      senderConfigLegal { cfg0 with isnS := 4294967283, srcLen := 10 } = true ∧
      senderConfigLegal { cfg0 with mss := 41 } = false ∧ senderConfigLegal { cfg0 with window := 39 } = false ∧
      senderConfigLegal { cfg0 with mss := 50, payloadMax := 50 } = true ∧
      senderConfigLegal { cfg0 with window := 2 ^ 32 } = false ∧ senderConfigLegal { cfg0 with gamma := -1 } = false ∧
      senderConfigLegal { cfg0 with pDrop := 3/2 } = false ∧ senderConfigLegal { cfg0 with pDelay := 1 } = true ∧
      senderConfigLegal { cfg0 with reorderMaxDelay := 0 } = false ∧
      senderConfigLegal { cfg0 with delayMaxDelay := -1 } = false := by decide +kernel

/-- X3, X7, X9, and a write of `SRC`. -/
theorem test_cfgwr : after (.cmdCfgwr (.window 7)) (atSnd .dataTransfer) = atSnd .dataTransfer ∧
    after (.cmdCfgwr (.pDrop 1)) (atSnd .closed) = atSnd .closed ∧
    after (.cmdCfgwr (.rcvWnd 7)) (atRcv .established) = atRcv .established ∧
    (after (.cmdCfgwr (.src [5, 0, 6])) st0).src = [(0, 5), (2, 6)] ∧
    (after (.cmdCfgwr (.src [5, 0, 6])) st0).cfg.srcLen = 3 := by decide +kernel

/-- X4. -/
theorem test_reset_keeps_now :
    let s := after .cmdReset { inj [] (some heldA) with chanSR := [f5], cntS := ⟨1, 2, 3, 4, 5, 6, 7, 8, 9⟩ }
    s.pld = Pld.reset ∧ s.chanSR = [] ∧ s.cntS = CntS.zero ∧ s.now = 1/200 ∧ s.snd.phase = .idle := by decide +kernel

/-- R40 with R63 and R300: the storage of `SRC` stays and its content is empty. -/
theorem test_reset_empties_src :
    let s := after (.cmdCfgwr (.src [5, 0, 6])) st0
    srcBytes s = [5, 0, 6] ∧ srcBytes (after .cmdReset s) = [] ∧ (after .cmdReset s).src = s.src := by decide +kernel

theorem test_clock : (after (.clockAdvance (1/1000)) st0).now = 1/1000 := by decide +kernel

/-! ### Witnesses: the hypotheses of a statement can be met, each clause at a boundary -/

/-- A valid frame of a type without payload, as a frame slot's operand. -/
def wfr (ty : FrameType) (ack : U32) : WireFrame where
  src := local1
  dst := local1
  seq := 7#32
  ackNum := ack
  window := 0#32
  synByte := flagByte (synOfType ty)
  ackByte := flagByte (ackOfType ty)
  finByte := flagByte (finOfType ty)
  pad := 0#8
  checksum := checksumOf (digest4 40 (hdr (pkt ty 7#32 ack 0#32 []) 0#64 ++ []))
  payload := []

/-- The packet that `wfr` decodes to. -/
def wpk (ty : FrameType) (ack : U32) : Packet := { pkt ty 7#32 ack 0#32 [] with checksum := (wfr ty ack).checksum }

/-- A header that carries the checksum of its packet decodes to the packet. -/
theorem hdr_decodes (p : Packet) (h : p.payload = []) :
    let c := checksumOf (digest4 40 (hdr p 0#64 ++ []))
    decodeFrame 40 (hdr p c ++ []) = .ok { p with checksum := c } := by
  intro c
  have hp := packetAt_hdr p c
  rw [decodeFrame, decodeFrameWith, zerock_hdr, checksum_hdr]
  rw [h] at hp
  rw [if_neg (by rw [List.append_nil, hdr_length]; decide), if_neg (by rw [List.append_nil, hdr_length]; decide),
    if_neg (by rw [not_not]), hp, h]

theorem wfr_decodes (ty : FrameType) (ack : U32) : decodeFrame 40 (wireBytes (wfr ty ack)) = .ok (wpk ty ack) :=
  hdr_decodes (pkt ty 7#32 ack 0#32 []) rfl

/-- A packet of a reserved type: `SYN` and `FIN` (R98). -/
def rsvPkt : Packet := { pkt .syn 7#32 0#32 0#32 [] with fin := true }

theorem witness_EncodeEmbedsTheDigest :
    (pkt .data 0 0 0 (List.replicate 40 0#8)).payload.length ≤ st0.cfg.payloadMax ∧
      st0.cfg.payloadMax < (pkt .data 0 0 0 (List.replicate 41 0#8)).payload.length := by decide +kernel

theorem witness_FlipChangesByteSixOnly : 7 ≤ (List.replicate 7 0#8).length ∧ (List.replicate 6 0#8).length < 7 := by
  decide

theorem witness_DecodeUndoesEncode : (pkt .data 1 1 8 (List.replicate 50 0#8)).payload.length ≤ 50 := by decide

theorem witness_FlippedFrameFailsTheDigest : (pkt .fin 1 1 8 []).payload.length ≤ 0 := by decide

/-- Both clauses at the ends of their ranges: 40 bytes of payload with `PAYLOAD_MAX = 40`, and 132 bytes. -/
theorem witness_DigestSeesTheFlippedByte (n : Nat) (h : n = 32 ∨ n = 72 ∨ n = 132) :
    32 ≤ (List.replicate n 0#8).length ∧ (List.replicate n 0#8).length ≤ 32 + 100 ∧
      ((List.replicate n 0#8).drop 24).take 8 = List.replicate 8 0#8 := by
  rcases h with rfl | rfl | rfl <;> decide

theorem witness_EveryOperationIsReadBack : (Instr.sAckFwd (2 ^ 32)).wf 40 = true ∧ (Instr.synack .rs (wire .synack)).wf 0 = true ∧
    (Instr.data .sr (wireAt (List.replicate 72 0#8))).wf 40 = true ∧ (Instr.rRxCorrupt [] .digest).wf 40 = true :=
  ⟨rfl, rfl, rfl, rfl⟩

/-- A datagram of 32 bytes whose flags select a reserved row. -/
def reservedFrame : Bytes := ((List.replicate 32 0#8).set 20 1#8).set 22 1#8

theorem witness_DatagramsDecodeExactly : (∃ i, decode 40 (.frame .sr (List.replicate 32 0#8)) = .ok i) ∧
    (∃ i, decode 40 (.frame .rs (List.replicate 72 0#8)) = .ok i) ∧ (List.replicate 31 0#8).length < 32 ∧
    32 + 40 < (List.replicate 73 0#8).length ∧ 32 ≤ reservedFrame.length ∧ reservedFrame.length ≤ 32 + 40 ∧
    ∀ i, decode 40 (.frame .sr reservedFrame) ≠ .ok i := by
  refine ⟨⟨_, rfl⟩, ⟨_, rfl⟩, by decide, by decide, by decide, by decide, fun i h => ?_⟩
  have h2 : decode 40 (.frame .sr reservedFrame) = .error .reservedFlags := rfl
  rw [h2] at h
  cases h

theorem witness_StepRunsTheDecodedOperation :
    (pushSlot (.event 0b00101000#8 Operands.zero) st0).env.sched = [.event 0b00101000#8 Operands.zero] ∧
      decode st0.cfg.payloadMax (.event 0b00101000#8 Operands.zero) = .ok .pldTickheld ∧
      (pushSlot (.frame .sr (List.replicate 32 0#8)) st0).env.sched = [.frame .sr (List.replicate 32 0#8)] ∧
      ∃ i, decode st0.cfg.payloadMax (.frame .sr (List.replicate 32 0#8)) = .ok i := ⟨rfl, rfl, rfl, _, rfl⟩

/-- A datagram of each kind that decodes to no operation, at a polling engine and at one that does not poll; the valid
one of a reserved type is the frame of a packet with `SYN` and `FIN`. -/
theorem witness_StepWithoutAnOperation (b : Bytes) : st0.env.sched = [] ∧ opOfCode 0b01001111#8 Operands.zero = none ∧
    (let o := { Operands.zero with num := 2 ^ 32 };
      opOfCode 0b01000111#8 o = some (.sAckFwd (2 ^ 32)) ∧
        (pushSlot (.event 0b01000111#8 o) st0).env.sched = [.event 0b01000111#8 o]) ∧
    (pushSlot (.frame .sr b) (atRcv .listen)).env.sched = [.frame .sr b] ∧ (atRcv .listen).rcv.phase = .listen ∧
    (pushSlot (.frame .rs b) (atSnd .finWait)).env.sched = [.frame .rs b] ∧ (atSnd .finWait).snd.phase = .finWait ∧
    (atRcv .synRcvd).rcv.phase = .synRcvd ∧ (atSnd .closed).snd.phase = .closed ∧ (List.replicate 31 0#8).length < 32 ∧
    32 + st0.cfg.payloadMax < (List.replicate 73 0#8).length ∧
    (let c := checksumOf (digest4 40 (hdr rsvPkt 0#64 ++ []));
      (hdr rsvPkt c ++ []).length = 32 ∧ byteAt (hdr rsvPkt c ++ []) 22 = 1#8 ∧ byteAt (hdr rsvPkt c ++ []) 20 = 1#8 ∧
        decodeFrame st0.cfg.payloadMax (hdr rsvPkt c ++ []) = .ok { rsvPkt with checksum := c }) ∧
    (let f := List.replicate 20 0#8 ++ [1#8, 0#8, 1#8, 0#8, 1#8, 0#8, 0#8, 0#8, 0#8, 0#8, 0#8, 0#8];
      f.length = 32 ∧ byteAt f 22 ≠ 0#8 ∧ byteAt f 20 ≠ 0#8 ∧
        decodeFrame st0.cfg.payloadMax f = .error .digest) := by
  refine ⟨rfl, rfl, ⟨rfl, rfl⟩, rfl, rfl, rfl, rfl, rfl, rfl, by decide, by decide +kernel, ?_, by decide, by decide,
    by decide, ?_⟩
  · exact ⟨rfl, rfl, rfl, hdr_decodes rsvPkt rfl⟩
  · rw [decodeFrame, decodeFrameWith, if_neg (by decide), if_neg (by decide +kernel), if_pos]
    intro h
    have h2 := congrArg be64Hi h
    rw [be64Hi_checksumOf] at h2
    revert h2
    decide

theorem witness_ReceiverRunsTheFramesRule (ty : FrameType) (h : ty ≠ .rsv) (ph : RcvPhase) :
    decodeFrame (atRcv ph).cfg.payloadMax (wireBytes (wfr ty 101#32)) = .ok (wpk ty 101#32) ∧ wireType (wfr ty 101#32) = ty ∧
      (atRcv ph).rcv.phase = ph := by
  refine ⟨wfr_decodes ty _, ?_, rfl⟩
  cases ty <;> first | rfl | exact absurd rfl h

theorem witness_SenderRunsTheFramesRule (ty : FrameType) (h : ty ≠ .rsv) (ph : SndPhase) :
    decodeFrame (atSnd ph).cfg.payloadMax (wireBytes (wfr ty 102#32)) = .ok (wpk ty 102#32) ∧ wireType (wfr ty 102#32) = ty ∧
      (atSnd ph).snd.phase = ph ∧ (fw false).snd.phase = .finWait ∧ (fw false).snd.finAcked = false ∧
      (wpk ty 102#32).ackNum.toNat = (fw false).snd.base + (fw false).cfg.srcLen + 1 ∧ (fw true).snd.phase = .finWait ∧
      (fw true).snd.finAcked = true ∧ (wpk ty 101#32).ackNum.toNat ≠ (fw false).snd.base + (fw false).cfg.srcLen + 1 := by
  refine ⟨wfr_decodes ty _, ?_, rfl, rfl, rfl, rfl, rfl, rfl, ?_⟩
  · cases ty <;> first | rfl | exact absurd rfl h
  · change (101 : Nat) ≠ 102
    decide

theorem witness_SubmitChoosesByScope : { cfg0 with pldScope := .all }.pldScope = .all ∧ st0.cfg.pldScope = .dataOnly ∧
    FrameType.syn ≠ .data := ⟨rfl, rfl, by decide⟩

theorem witness_HoldStashesTheFrame : (inj [] none).pld.held = none := rfl

theorem witness_TickReleasesTheHeldFrame : (inj [] none).pld.held = none ∧ (inj [] (some heldA)).pld.held = some heldA ∧
    (inj [] (some heldA)).pld.wait + 1 < (inj [] (some heldA)).cfg.reorderMaxDelay ∧
    (let s := after .pldTickheld (inj [] (some heldA));
      s.pld.held = some heldA ∧ s.cfg.reorderMaxDelay ≤ s.pld.wait + 1) := by decide +kernel

theorem witness_HeldFrameWaitsForItsTicks :
    let s := inj [] (some heldA)
    s.pld.held = some heldA ∧ s.pld.wait = 0 ∧ 1 ≤ s.cfg.reorderMaxDelay ∧ 1 < s.cfg.reorderMaxDelay ∧
      s.cfg.reorderMaxDelay ≤ 2 ∧ s.snd.chanOpen = true := by decide +kernel

theorem witness_DelayedSendFires :
    let m : Pending := ⟨f5, local1, 401/200⟩
    m ∈ (dly (401/200) .dataTransfer).pld.pending ∧ m.due ≤ (dly (401/200) .dataTransfer).now ∧
      (dly (401/200) .dataTransfer).snd.chanOpen = true ∧ m ∈ (dly 3 .closed).pld.pending ∧
      m.due ≤ (dly 3 .closed).now ∧ (dly 3 .closed).snd.chanOpen = false := by decide +kernel

theorem witness_DrawsStayInRange : (0 : Rat) ≤ 0 ∧ (inj [0, 3/4] none).env.draws[0]? = some 0 ∧ (0 : Rat) < 1 ∧
    (inj [0, 3/4] none).env.draws[1]? = some (3/4) ∧ (0 : Rat) ≤ 3/4 ∧ (3/4 : Rat) < 1 ∧
    (inj [] none).env.delays[0]? = some 2 ∧ (0 : Rat) ≤ 2 ∧ (2 : Rat) ≤ 2 := by decide +kernel

/-- A sender whose five probabilities are given. -/
def edge (a b c d e : Rat) : State :=
  let s := atSnd .dataTransfer
  { s with cfg := { s.cfg with pDrop := a, pDuplicate := b, pCorrupt := c, pReorder := d, pDelay := e } }

theorem witness_EdgeProbabilitiesFixTheBranch (a b c d e : Rat) :
    let s := edge a b c d e
    s.cfg.pDrop = a ∧ s.cfg.pDuplicate = b ∧ s.cfg.pCorrupt = c ∧ s.cfg.pReorder = d ∧ s.cfg.pDelay = e ∧
      s.pld.held = none ∧ s.snd.chanOpen = true := ⟨rfl, rfl, rfl, rfl, rfl, rfl, rfl⟩

theorem witness_SubmitTouchesOnlyTheInjector :
    (∃ t, exec (.pldSubmit f5 .data local1 false) (inj [] (some heldA)) = .next t) ∧
      (atSnd .closed).snd.chanOpen = false := ⟨⟨_, rfl⟩, rfl⟩

theorem witness_OpenSubmitsTheSyn : st0.snd.phase = .idle ∧ senderConfigLegal st0.cfg = true := ⟨rfl, by decide +kernel⟩

theorem witness_StartRefusesAnIllegalConfiguration :
    (let s := { st0 with cfg := { cfg0 with mss := 0 } };
      s.snd.phase = .idle ∧ senderConfigLegal s.cfg = false) ∧ (atSnd .closed).snd.phase ≠ .idle :=
  ⟨⟨rfl, by decide +kernel⟩, by decide +kernel⟩

theorem witness_SynackThenHandshakeAck : (atSnd .synSent).snd.phase = .synSent ∧ classify (pkt .synack 1 1 0 []) = .synack ∧
    (atSnd .established).snd.phase = .established := ⟨rfl, by decide, rfl⟩

/-- A datagram in either direction, at the index both channel contracts can poll. -/
theorem witness_SenderPollRunsTheTableRule (ph : SndPhase) (ty : FrameType) :
    let b := List.replicate 10 0#8
    let s := { atSnd ph with chanRS := [b] }
    let w := wireBytes (wfr ty 102#32)
    let s2 := { fw false with chanRS := [w] }
    (Config.channel = .fifoReliable → (0 : Nat) = 0) ∧ (Config.channel = .unorderedLossy → (0 : Nat) = 0) ∧
      s.chanRS[0]? = some b ∧ decodeFrame s.cfg.payloadMax b = .error .short ∧ s.snd.phase = ph ∧ s2.chanRS[0]? = some w ∧
      decodeFrame s2.cfg.payloadMax w = .ok (wpk ty 102#32) ∧ s2.snd.phase = .finWait :=
  ⟨fun _ => rfl, fun _ => rfl, rfl, rfl, rfl, rfl, wfr_decodes ty _, rfl⟩

theorem witness_SendTransmitsTheNextSegment (q : Nat) (h : q = 1 ∨ q = 81) :
    let s := sw 100 1 q q
    s.snd.phase = .dataTransfer ∧ s.snd.base ≤ s.snd.nxt ∧ s.snd.nxt - s.snd.base < s.cfg.srcLen ∧
      (s.snd.nxt - s.snd.una) + min s.cfg.mss (s.cfg.srcLen - (s.snd.nxt - s.snd.base)) ≤ s.cfg.window := by
  rcases h with rfl | rfl <;> decide +kernel

theorem witness_AckIsForwardOrStale :
    let s := sa 101
    let n (v : U32) : Nat := (pkt .ack 1 v 0 []).ackNum.toNat
    s.snd.phase = .dataTransfer ∧ (∀ v, classify (pkt .ack 1 v 0 []) = .ack) ∧ s.snd.max < n 102 ∧ n 101 ≤ s.snd.max ∧
      s.snd.una < n 42 ∧ n 42 ≤ s.snd.max ∧ n 41 ≤ s.snd.una ∧ n 41 ≤ s.snd.max :=
  ⟨rfl, fun _ => rfl, by decide +kernel, by decide +kernel, by decide +kernel, by decide +kernel, by decide +kernel,
    by decide +kernel⟩

theorem witness_ForwardAckSlidesTheWindow : (sa 101).snd.una < 42 ∧ 101 ≤ (sa 101).snd.max := by decide +kernel

theorem witness_ThirdStaleAckRetransmits : 41 ≤ (sa 101).snd.una ∧ countGet (sa 101).snd.dupack 41 + 1 < 3 ∧
    1 ≤ v36.snd.una ∧ 3 ≤ countGet v36.snd.dupack 1 + 1 := by decide +kernel

theorem witness_FastRetransmitResendsOneSegment :
    let s := sa 101
    (s.snd.base ≤ 1 ∧ 100 < s.snd.base + s.cfg.srcLen ∧ 100 < s.snd.max) ∧ 0 < s.snd.base ∧
      s.snd.base + s.cfg.srcLen ≤ 101 ∧ s.snd.max ≤ 101 := by decide +kernel

theorem witness_TimeoutPullsTheCursorBack :
    let s := { sa 101 with now := Config.maxTimeout }
    s.snd.phase = .dataTransfer ∧ s.snd.outq = ⟨41, 40, 0, false⟩ :: [⟨81, 20, 0, false⟩] ∧
      (0 : Rat) + min (max (s.snd.ertt + s.cfg.gamma * s.snd.drtt) Config.minTimeout) Config.maxTimeout ≤ s.now := by
  refine ⟨rfl, rfl, ?_⟩
  rw [zero_add]
  exact min_le_right _ _

theorem witness_TeardownClosesTheSender :
    let s := sw 200 101 101 101
    s.snd.phase = .dataTransfer ∧ s.snd.una = s.snd.base + s.cfg.srcLen ∧ (fw false).snd.phase = .finWait ∧
      (fw false).snd.finAcked = false ∧ classify (pkt .ack 1 102 0 []) = .ack ∧
      (pkt .ack 1 102 0 []).ackNum.toNat = (fw false).snd.base + (fw false).cfg.srcLen + 1 ∧
      (fw true).snd.phase = .finWait ∧ (fw true).snd.finAcked = true ∧ classify (pkt .fin 1 0 0 []) = .fin := by
  decide +kernel

theorem witness_ReceiverPollRunsTheTableRule (ph : RcvPhase) (ty : FrameType) :
    let b := List.replicate 10 0#8
    let s := { atRcv ph with chanSR := [b] }
    let w := wireBytes (wfr ty 101#32)
    let s2 := { atRcv ph with chanSR := [w] }
    (Config.channel = .fifoReliable → (0 : Nat) = 0) ∧ (Config.channel = .unorderedLossy → (0 : Nat) = 0) ∧
      s.chanSR[0]? = some b ∧ decodeFrame s.cfg.payloadMax b = .error .short ∧ s.rcv.phase = ph ∧ s2.chanSR[0]? = some w ∧
      decodeFrame s2.cfg.payloadMax w = .ok (wpk ty 101#32) ∧ s2.rcv.phase = ph :=
  ⟨fun _ => rfl, fun _ => rfl, rfl, rfl, rfl, rfl, wfr_decodes ty _, rfl⟩

theorem witness_SynOpensTheReceiver : (atRcv .listen).rcv.phase = .listen ∧ classify (pkt .syn 7 0 8 []) = .syn ∧
    { cfg0 with isnR := 2 ^ 32 - 3 }.isnR + 2 < 2 ^ 32 ∧ 2 ^ 32 ≤ { cfg0 with isnR := 2 ^ 32 - 2 }.isnR + 2 :=
  ⟨rfl, by decide, by decide, by decide⟩

theorem witness_ReceiverAnswersTheHandshake : (atRcv .synRcvd).rcv.phase = .synRcvd ∧
    (atRcv .awaitAck).rcv.phase = .awaitAck ∧ classify (pkt .ack 1 1 8 []) = .ack := ⟨rfl, rfl, by decide⟩

theorem witness_OnlyTheExpectedSegmentIsDelivered : (dat 1 [0x48]).seq.toNat = (atRcv .established).rcv.rcvNxt ∧
    (dat 2 [0x48]).seq.toNat ≠ (atRcv .established).rcv.rcvNxt := by decide +kernel

theorem witness_DataIsObservedThenTested : (atRcv .established).rcv.phase = .established ∧ classify (dat 1 []) = .data ∧
    (dat 1 []).seq.toNat = (atRcv .established).rcv.rcvNxt ∧
    (dat 2 []).seq.toNat ≠ (atRcv .established).rcv.rcvNxt := by decide +kernel

theorem witness_ReceiverClosesAndListens : (atRcv .established).rcv.phase = .established ∧
    classify (pkt .fin 1 1 8 []) = .fin ∧ (atRcv .finRcvd).rcv.phase = .finRcvd ∧
    (atRcv .lastAck).rcv.phase = .lastAck ∧ classify (pkt .ack 1 1 8 []) = .ack := by decide +kernel

theorem witness_ConfigurationWriteWhileIdle : st0.snd.phase = .idle ∧ (atSnd .closed).snd.phase ≠ .idle ∧
    (atRcv .listen).rcv.phase = .listen ∧ (atRcv .lastAck).rcv.phase ≠ .listen := by decide +kernel

theorem witness_ClockAndLossAct : (0 : Rat) ≤ 0 := le_rfl

theorem witness_DisabledOperationsChangeNothing :
    (inj [] (some heldA)).pld.held ≠ none ∧ (dly 2 .closed).now < (401/200 : Rat) ∧
      senderConfigLegal { cfg0 with mss := 0 } = false ∧ (atSnd .closed).snd.phase ≠ .idle ∧
      (atSnd .closed).snd.phase ≠ .dataTransfer ∧ (atSnd .closed).snd.phase ≠ .finWait ∧
      (sw 200 0 0 0).snd.nxt < (sw 200 0 0 0).snd.base ∧ [f5].length ≤ 1 ∧
      (sw 200 1 101 101).snd.base + (sw 200 1 101 101).cfg.srcLen ≤ (sw 200 1 101 101).snd.nxt ∧
      (sw 200 1 101 101).snd.una ≠ (sw 200 1 101 101).snd.base + (sw 200 1 101 101).cfg.srcLen ∧
      (sw 40 1 41 41).cfg.window < 40 + min (sw 40 1 41 41).cfg.mss 60 ∧ (sa 101).snd.max < 102 ∧
      41 ≤ (sa 101).snd.una ∧ (sa 101).snd.una < 42 ∧ (sw 200 1 1 1).snd.outq = [] ∧ (fw true).snd.finAcked = true ∧
      (fw false).snd.finAcked = false ∧ classify (dat 1 []) ≠ .ack ∧ (atRcv .lastAck).rcv.phase ≠ .listen ∧
      (dat 2 []).seq.toNat ≠ (atRcv .established).rcv.rcvNxt ∧
      (dat 1 []).seq.toNat = (atRcv .established).rcv.rcvNxt ∧ (-1 : Rat) < 0 ∧ st0.chanRS = [] ∧ st0.chanSR = [] := by
  decide +kernel

/-- The timeout clause, just before any admitted deadline. -/
theorem witness_DisabledTimeout : (sa 101).snd.outq = ⟨41, 40, 0, false⟩ :: [⟨81, 20, 0, false⟩] ∧
    (sa 101).now < 0 + rto (sa 101) := by
  refine ⟨rfl, ?_⟩
  have h : 0 < Config.minTimeout := by
    unfold Config.minTimeout
    split
    · assumption
    · norm_num
  have h2 : Config.minTimeout ≤ Config.maxTimeout := le_max_left _ _
  rw [zero_add]
  exact lt_min (lt_of_lt_of_le h (le_max_right _ _)) (lt_of_lt_of_le h h2)

theorem witness_PhasesFollowTheTables : (Instr.rSynack).wf 40 = true ∧ (∃ t, exec .rSynack (atRcv .synRcvd) = .next t ∧
    t.rcv.phase ≠ (atRcv .synRcvd).rcv.phase) ∧ Instr.sHsack.wf 40 = true ∧
    ∃ t, exec .sHsack (atSnd .established) = .next t ∧ t.snd.phase ≠ (atSnd .established).snd.phase := by
  refine ⟨rfl, ⟨_, rfl, by decide +kernel⟩, rfl, _, rfl, by decide +kernel⟩

/-- An operation of each owner. -/
theorem witness_OnlyTheOwnerWrites :
    [.classify (pkt .syn 0 0 0 []), .sHsack, .dlyFire ⟨f5, local1, 0⟩, .rSynack, .cmdCfgwr (.mss 3), .clockAdvance 1,
        .chanLose .sr 0].map ownerOf = [.codec, .snd, .dly, .rcv, .host, .clock, .chan] ∧
      ∀ i ∈ [Instr.classify (pkt .syn 0 0 0 []), .sHsack, .dlyFire ⟨f5, local1, 0⟩, .rSynack, .cmdCfgwr (.mss 3),
        .clockAdvance 1, .chanLose .sr 0], ∃ t, exec i st0 = .next t := by
  refine ⟨rfl, fun i h => ?_⟩
  simp only [List.mem_cons, List.not_mem_nil, or_false] at h
  rcases h with rfl | rfl | rfl | rfl | rfl | rfl | rfl <;> exact ⟨_, rfl⟩

theorem witness_ClockErrorsAndSinkKeepTheirHistory :
    let s := { atSnd .dataTransfer with snd := { (atSnd .dataTransfer).snd with cfgErr := true } }
    (∃ t, exec .sSend s = .next t) ∧ Instr.sSend ≠ .cmdReset ∧ s.snd.cfgErr = true ∧ s.rcv.sinkOpen = false :=
  ⟨⟨_, rfl⟩, by simp, rfl, rfl⟩

/-- The end of a run, with a frame still held (R310, R322). -/
theorem witness_EndedRun : ∃ s : State, s.snd.phase = .closed ∧ s.rcv.phase = .listen ∧ s.rcv.sinkOpen = false ∧
    s.chanSR = [] ∧ s.pld.pending = [] ∧ s.pld.held = some heldA ∧ isStep (.clockAdvance 1) = true ∧
    (∃ t, exec (.clockAdvance 1) s = .next t) ∧ endOfRun 0 s = some (observe s) :=
  ⟨{ atSnd .closed with pld := ⟨some heldA, 0, []⟩ }, rfl, rfl, rfl, rfl, rfl, rfl, rfl, ⟨_, rfl⟩, rfl⟩

/-- A connection in transfer: 40 bytes delivered, the next two segments outstanding, one of them in the channel and
held, one delayed, one duplicate acknowledgement seen, and a poll scheduled. -/
def busyBase : State :=
  let s := sa 101
  { s with
    src := [(0, 0x41#8), (40, 0x42#8)]
    snd := { s.snd with dupack := [(41, 1)], timed := some ⟨81, 0, true, false⟩ }
    rcv := { s.rcv with
      phase := .established, rcvNxt := 41, sinkOpen := true, obs := [(1, 2)] }
    cntR := ⟨2, 0, 1, 1⟩
    sink := 0x41#8 :: List.replicate 39 0#8
    env := { s.env with sched := [.event 0b01100000#8 Operands.zero] } }

def busy : State :=
  { busyBase with
    chanSR := [dataFrame busyBase 41]
    pld := ⟨some ⟨dataFrame busyBase 81, local1, false⟩, 0, [⟨dataFrame busyBase 81, local1, 1⟩]⟩ }

theorem busy_steps : ∃ t, step busy = .next t :=
  ⟨rRx 0 { busy with env := { busy.env with sched := [] } }, rfl⟩

theorem busy_frame (q : Nat) (h : q = 41 ∨ q = 81) : sentFrame busy (dataFrame busyBase q) := by
  refine ⟨sndPacket busyBase .data q 1 (segBytes busyBase q), ?_, rfl⟩
  rcases h with rfl | rfl <;>
    exact ⟨by decide +kernel, by decide +kernel, fun _ => ⟨by decide +kernel, by decide +kernel, rfl⟩⟩

theorem busy_windowSafe : windowSafe busy := by
  have h : senderConfigLegal busy.cfg = true := by decide +kernel
  refine ⟨?_, ?_, ?_, ?_, ?_, ?_, fun hp => ?_, fun _ => ⟨h, rfl⟩⟩
  · decide +kernel
  · decide +kernel
  · decide +kernel
  · decide +kernel
  · decide +kernel
  · decide +kernel
  · cases hp

theorem busy_registersSafe : registersSafe busy := by
  refine ⟨rfl, rfl, by decide +kernel, by decide +kernel, ?_, ?_, ?_, ?_⟩ <;> decide +kernel

theorem busy_deliverySafe : deliverySafe busy := by
  refine ⟨fun b hb => ?_, fun m hm => ?_, fun h hh => ?_, fun hp => ?_, fun _ => ?_, ?_⟩
  · simp only [busy, List.mem_singleton] at hb
    exact ⟨b, hb ▸ busy_frame 41 (.inl rfl), .inl rfl⟩
  · simp only [busy, List.mem_singleton] at hm
    exact hm ▸ busy_frame 81 (.inr rfl)
  · simp only [busy, Option.some.injEq] at hh
    exact hh ▸ busy_frame 81 (.inr rfl)
  · cases hp
  · decide +kernel
  · decide +kernel

theorem busy_outqSafe : outqSafe busy := by
  have h : busy.snd.outq = [⟨41, 40, 0, false⟩, ⟨81, 20, 0, false⟩] := rfl
  refine ⟨by decide +kernel, ?_, ?_, ?_, ?_⟩
  · exact ⟨rfl, trivial⟩
  · intro e he
    rw [h] at he
    cases he
    rfl
  · intro e he
    rw [h] at he
    cases he
    decide +kernel
  · intro he
    cases he

theorem witness_StepKeepsTheWindow : windowSafe busy ∧ ∃ t, step busy = .next t := ⟨busy_windowSafe, busy_steps⟩

theorem witness_StepKeepsTheOutstandingTable : windowSafe busy ∧ outqSafe busy ∧ ∃ t, step busy = .next t :=
  ⟨busy_windowSafe, busy_outqSafe, busy_steps⟩

theorem witness_StepKeepsTimesInOrder : timeSafe busy ∧ ∃ t, step busy = .next t := by
  refine ⟨⟨by decide +kernel, by decide +kernel, by decide +kernel, by decide +kernel, fun t ht => ?_⟩, busy_steps⟩
  have h : busy.snd.timed = some ⟨81, 0, true, false⟩ := rfl
  rw [h] at ht
  cases ht
  decide +kernel

theorem witness_StepKeepsTheHoldLaws : holdSafe busy ∧ ∃ t, step busy = .next t :=
  ⟨⟨fun h => (by cases h), fun _ => by decide +kernel⟩, busy_steps⟩

theorem witness_StepKeepsTheCounterLaws : countersSafe busy ∧ ∃ t, step busy = .next t :=
  ⟨⟨by decide +kernel, by decide +kernel, by decide +kernel⟩, busy_steps⟩

theorem witness_StepKeepsFlagsAndMemories : registersSafe busy ∧ ∃ t, step busy = .next t :=
  ⟨busy_registersSafe, busy_steps⟩

theorem witness_StepsDeliverTheSourceInOrder : windowSafe busy ∧ registersSafe busy ∧ deliverySafe busy ∧
    busy.env.sched = [.event 0b01100000#8 Operands.zero] ∧
    decode busy.cfg.payloadMax (.event 0b01100000#8 Operands.zero) = .ok (.rRx 0) ∧ isStep (.rRx 0) = true ∧ ∃ t, step busy = .next t :=
  ⟨busy_windowSafe, busy_registersSafe, busy_deliverySafe, rfl, rfl, rfl, busy_steps⟩

end Sys2Proof.Tests
end

namespace Sys2Proof.Proofs.Scope

open Sys2Proof Sys2Proof.Machine

/-! ## A step runs the operation at the schedule's head (R14, R43) -/

/-- Settles O12: `fetch` takes the slot off the schedule, and `step` hands what it decodes to to `exec`. -/
theorem stepRunsTheDecodedOperation : Obligations.StepRunsTheDecodedOperation := by
  intro s slot rest i hsched hdecode
  have hfetch : fetch s = some (slot, s.withEnv { s.env with sched := rest }) := by
    simp only [fetch, hsched]
  simp only [step, hfetch, hdecode]
  rfl

/-! ## Every step keeps flags with their phases, canonical memories and 32-bit numbers (R13, R27, R247)

`registersSafe` speaks of the sender's registers, the receiver's and `SRC` apart from one another, so a rule of one
engine has only its own engine's part to keep. -/

/-- What `registersSafe` asks of the sender's registers. -/
def sndRegsSafe (x : Snd) : Prop :=
  x.chanOpen = chanPhase x.phase ∧ countWf x.dupack = true ∧ x.rcvNxt < 2 ^ 32

/-- What `registersSafe` asks of the receiver's registers. -/
def rcvRegsSafe (x : Rcv) : Prop :=
  x.sinkOpen = sinkPhase x.phase ∧ x.rcvNxt < 2 ^ 32 ∧ x.isn + 2 < 2 ^ 32 ∧ x.finSeq < 2 ^ 32

theorem registersSafe_iff (s : State) :
    registersSafe s ↔ sndRegsSafe s.snd ∧ rcvRegsSafe s.rcv ∧ Memory.wf s.src = true := by
  unfold registersSafe sndRegsSafe rcvRegsSafe
  tauto

section Owners

variable {s t : State} (hs : registersSafe s)
include hs

theorem sndRegsSafe_of_registersSafe : sndRegsSafe s.snd := ((registersSafe_iff s).1 hs).1

theorem rcvRegsSafe_of_registersSafe : rcvRegsSafe s.rcv := ((registersSafe_iff s).1 hs).2.1

/-- An operation that writes neither engine's registers nor `SRC`. -/
theorem registersSafe_of_same (hsnd : t.snd = s.snd := by simp) (hrcv : t.rcv = s.rcv := by simp)
    (hsrc : t.src = s.src := by simp) : registersSafe t := by
  simpa only [registersSafe_iff, hsnd, hrcv, hsrc] using hs

/-- An operation of the sender leaves the receiver and `SRC` alone (R42). -/
theorem registersSafe_of_snd (hsnd : sndRegsSafe t.snd) (hrcv : t.rcv = s.rcv := by simp)
    (hsrc : t.src = s.src := by simp) : registersSafe t := by
  obtain ⟨-, hr, hm⟩ := (registersSafe_iff s).1 hs
  exact (registersSafe_iff t).2 ⟨hsnd, hrcv ▸ hr, hsrc ▸ hm⟩

/-- An operation of the receiver leaves the sender and `SRC` alone (R42). -/
theorem registersSafe_of_rcv (hrcv : rcvRegsSafe t.rcv) (hsnd : t.snd = s.snd := by simp)
    (hsrc : t.src = s.src := by simp) : registersSafe t := by
  obtain ⟨hx, -, hm⟩ := (registersSafe_iff s).1 hs
  exact (registersSafe_iff t).2 ⟨hsnd ▸ hx, hrcv, hsrc ▸ hm⟩

/-- An operation behind a guard has only its enabled case to keep (entry 4). -/
theorem registersSafe_ite {g : Prop} [Decidable g] (ht : g → registersSafe t) :
    registersSafe (if g then t else s) := by
  split_ifs with hg
  · exact ht hg
  · exact hs

end Owners

theorem sndRegsSafe_reset : sndRegsSafe Snd.reset := ⟨rfl, rfl, Nat.two_pow_pos 32⟩

theorem rcvRegsSafe_reset : rcvRegsSafe Rcv.reset := ⟨rfl, Nat.two_pow_pos 32, by decide, Nat.two_pow_pos 32⟩

theorem inc32_lt (x : Nat) : inc32 x < 2 ^ 32 := Nat.mod_lt _ (by decide)

/-! ### Sender rules -/

section Sender

variable (s : State)

theorem sndRegsSafe_rttArm : sndRegsSafe (rttArm s).snd ↔ sndRegsSafe s.snd := by
  unfold rttArm
  split <;> rfl

theorem sndRegsSafe_rttCycle (a : Nat) : sndRegsSafe (rttCycle a s).snd ↔ sndRegsSafe s.snd := by
  unfold rttCycle
  split_ifs <;> rfl

theorem sndRegsSafe_rttSample (a : Nat) (t : Timed) :
    sndRegsSafe (rttSample a t s).snd ↔ sndRegsSafe s.snd := by
  unfold rttSample
  split_ifs <;> rfl

/-- The round-trip measurement writes no register that `registersSafe` reads (R203). -/
theorem sndRegsSafe_rttOnFwdAck (a : Nat) : sndRegsSafe (rttOnFwdAck a s).snd ↔ sndRegsSafe s.snd := by
  unfold rttOnFwdAck
  split
  · exact sndRegsSafe_rttArm s
  · rw [sndRegsSafe_rttArm, sndRegsSafe_rttCycle, sndRegsSafe_rttSample]

theorem sndRegsSafe_sAckFwd (a : Nat) : sndRegsSafe (sAckFwd a s).snd ↔ sndRegsSafe s.snd :=
  sndRegsSafe_rttOnFwdAck _ a

theorem sndRegsSafe_sSend : sndRegsSafe (sSend s).snd ↔ sndRegsSafe s.snd := by
  rw [sSend, sndRegsSafe_rttArm]
  simp [sndRegsSafe]

theorem sndRegsSafe_sFastretx (a : Nat) : sndRegsSafe (sFastretx a s).snd ↔ sndRegsSafe s.snd := by
  unfold sFastretx
  split_ifs
  · simp [sndRegsSafe]
  · rfl

/-- `S.OPEN` opens the channel with the phase that has it open, and empties the duplicate table (R184). -/
theorem sndRegsSafe_sOpen : sndRegsSafe (sOpen s).snd := by
  simp [sOpen, sOpenRegs, setSndPhase, sndRegsSafe, chanPhase, countWf, countWfFrom]

/-- The final ACK is submitted and the channel closes with the entry to `CLOSED` (R197). -/
theorem sndRegsSafe_sRxPeerfin (p : Packet) (h : sndRegsSafe s.snd) : sndRegsSafe (sRxPeerfin p s).snd := by
  obtain ⟨-, hdup, hnxt⟩ := h
  simpa [sRxPeerfin, sndRegsSafe, chanPhase] using ⟨hdup, hnxt⟩

variable {s} (h : sndRegsSafe s.snd)
include h

/-- A move between two phases that both have the channel open. -/
theorem sndRegsSafe_of_phase {x : Snd} (hs : chanPhase s.snd.phase = true) (hx : chanPhase x.phase = true)
    (hopen : x.chanOpen = s.snd.chanOpen) (hdup : x.dupack = s.snd.dupack) (hnxt : x.rcvNxt < 2 ^ 32) :
    sndRegsSafe x :=
  ⟨by rw [hopen, h.1, hs, hx], hdup ▸ h.2.1, hnxt⟩

theorem sndRegsSafe_sRxSynack (p : Packet) (hp : s.snd.phase = .synSent) :
    sndRegsSafe (sRxSynack p s).snd :=
  sndRegsSafe_of_phase h (by rw [hp]; rfl) rfl rfl rfl (inc32_lt _)

theorem sndRegsSafe_sHsack (hp : s.snd.phase = .established) : sndRegsSafe (sHsack s).snd :=
  sndRegsSafe_of_phase h (by rw [hp]; rfl) rfl (by simp [sHsack, setSndPhase]) (by simp [sHsack, setSndPhase])
    (by simpa [sHsack, setSndPhase] using h.2.2)

theorem sndRegsSafe_sFin (hp : s.snd.phase = .dataTransfer) : sndRegsSafe (sFin s).snd :=
  sndRegsSafe_of_phase h (by rw [hp]; rfl) rfl (by simp [sFin]) (by simp [sFin]) (by simpa [sFin] using h.2.2)

/-- A write to the duplicate-ACK table keeps it canonical (R192). -/
theorem sndRegsSafe_countSet (a n : Nat) :
    sndRegsSafe { s.snd with dupack := countSet s.snd.dupack a n } :=
  ⟨h.1, countSet_wf _ a n h.2.1, h.2.2⟩

theorem sndRegsSafe_sAckStale (a : Nat) : sndRegsSafe (sAckStale a s).snd := by
  unfold sAckStale
  dsimp only
  split_ifs
  · rw [sndRegsSafe_sFastretx]
    exact sndRegsSafe_countSet h a 0
  · exact sndRegsSafe_countSet h a _

theorem sndRegsSafe_sRxAck (p : Packet) : sndRegsSafe (sRxAck p s).snd := by
  unfold sRxAck
  split_ifs
  · exact h
  · exact (sndRegsSafe_sAckFwd s _).2 h
  · exact sndRegsSafe_sAckStale h _

theorem sndRegsSafe_sDispatch (p : Packet) : sndRegsSafe (sDispatch p s).snd := by
  unfold sDispatch
  split
  next hp _ => exact sndRegsSafe_sRxSynack h p hp
  next => exact sndRegsSafe_sRxAck h p
  next => split_ifs <;> exact h
  next =>
    split_ifs
    · exact sndRegsSafe_sRxPeerfin s p h
    · exact h
  next => exact h

theorem sndRegsSafe_sReceive (b : Bytes) : sndRegsSafe (sReceive b s).snd := by
  obtain ⟨c, -, hc⟩ | ⟨p, -, hp⟩ := sReceive_cases s b
  · rw [hc]
    exact h
  · rw [hp]
    exact sndRegsSafe_sDispatch (s := logSnd (packetRec s.now p) s) h p

end Sender

/-! ### Receiver rules -/

section Receiver

variable (s : State)

@[simp] theorem rXmit_rcv (f : Bytes) : (rXmit f s).rcv = s.rcv := by simp [rXmit]

@[simp] theorem rRxCorrupt_rcv (b : Bytes) (c : Cause) : (rRxCorrupt b c s).rcv = s.rcv := by
  unfold rRxCorrupt takeAnomaly
  dsimp only
  split_ifs <;> simp

variable {s} (h : rcvRegsSafe s.rcv)
include h

/-- A move between two phases that agree on whether the sink is open. -/
theorem rcvRegsSafe_setRcvPhase (ph : RcvPhase) (hp : sinkPhase ph = sinkPhase s.rcv.phase) :
    rcvRegsSafe (setRcvPhase ph s).rcv :=
  ⟨h.1.trans hp.symm, h.2⟩

/-- `R.RX_SYN` opens the sink with `SYN_RCVD`, and the check of R233 keeps the latched ISN in range. -/
theorem rcvRegsSafe_rRxSyn (p : Packet) : rcvRegsSafe (rRxSyn p s).rcv := by
  unfold rRxSyn
  split_ifs with hc
  · exact ⟨rfl, inc32_lt _, by simpa [receiverConfigLegal] using hc, Nat.two_pow_pos 32⟩
  · exact h

theorem rcvRegsSafe_rSynack (hp : s.rcv.phase = .synRcvd) : rcvRegsSafe (rSynack s).rcv :=
  rcvRegsSafe_setRcvPhase (by simpa using h) _ (by simp only [rXmit_rcv, hp]; rfl)

theorem rcvRegsSafe_rRxHsack (p : Packet) (hp : s.rcv.phase = .awaitAck) :
    rcvRegsSafe (rRxHsack p s).rcv :=
  rcvRegsSafe_setRcvPhase h _ (by rw [hp]; rfl)

/-- The next expected number is reduced modulo 2^32 (R247). -/
theorem rcvRegsSafe_rDataInorder (p : Packet) : rcvRegsSafe (rDataInorder p s).rcv := by
  obtain ⟨hsink, -, hisn, hfin⟩ := h
  simpa [rDataInorder, rcvRegsSafe] using ⟨hsink, Nat.mod_lt _ (by decide), hisn, hfin⟩

theorem rcvRegsSafe_rDataOoo (p : Packet) : rcvRegsSafe (rDataOoo p s).rcv := by
  simpa [rDataOoo] using h

theorem rcvRegsSafe_rRxData (p : Packet) : rcvRegsSafe (rRxData p s).rcv := by
  have ho : rcvRegsSafe (rObserve p.seq.toNat s).rcv := h
  unfold rRxData
  dsimp only
  split_ifs
  · exact rcvRegsSafe_rDataInorder ho p
  · exact rcvRegsSafe_rDataOoo ho p

/-- The sink closes with the entry to `FIN_RCVD` (R239). -/
theorem rcvRegsSafe_rRxFin (p : Packet) : rcvRegsSafe (rRxFin p s).rcv :=
  ⟨rfl, h.2.1, h.2.2.1, p.seq.isLt⟩

theorem rcvRegsSafe_rClose (hp : s.rcv.phase = .finRcvd) : rcvRegsSafe (rClose s).rcv :=
  rcvRegsSafe_setRcvPhase (by simpa using h) _ (by simp only [rXmit_rcv, hp]; rfl)

theorem rcvRegsSafe_rRxLastack (p : Packet) (hp : s.rcv.phase = .lastAck) :
    rcvRegsSafe (rRxLastack p s).rcv :=
  rcvRegsSafe_setRcvPhase (s := s.withSumR _) h _ (by rw [State.withSumR_rcv, hp]; rfl)

theorem rcvRegsSafe_rDispatch (p : Packet) : rcvRegsSafe (rDispatch p s).rcv := by
  unfold rDispatch
  split
  next => exact rcvRegsSafe_rRxSyn h p
  next hp _ => exact rcvRegsSafe_rRxHsack h p hp
  next => exact rcvRegsSafe_rRxData h p
  next => exact rcvRegsSafe_rRxFin h p
  next hp _ => exact rcvRegsSafe_rRxLastack h p hp
  next => exact h

theorem rcvRegsSafe_rReceive (b : Bytes) : rcvRegsSafe (rReceive b s).rcv := by
  obtain ⟨c, -, hc⟩ | ⟨p, -, hp⟩ := rReceive_cases s b
  · rw [hc, rRxCorrupt_rcv]
    exact h
  · rw [hp]
    exact rcvRegsSafe_rDispatch (s := logRcv (packetRec s.now p) s) h p

end Receiver

/-! ### Operations and steps -/

section Operations

variable {s : State} (hs : registersSafe s)
include hs

theorem registersSafe_sReceive (b : Bytes) : registersSafe (sReceive b s) :=
  registersSafe_of_snd hs (sndRegsSafe_sReceive (sndRegsSafe_of_registersSafe hs) b)

theorem registersSafe_rReceive (b : Bytes) : registersSafe (rReceive b s) :=
  registersSafe_of_rcv hs (rcvRegsSafe_rReceive (rcvRegsSafe_of_registersSafe hs) b)

/-- A datagram handed to an engine runs that engine's receive rule or nothing (entry 7). -/
theorem registersSafe_pollDatagram (d : Dir) (b : Bytes) : registersSafe (pollDatagram d b s) := by
  cases d with
  | sr => exact registersSafe_ite hs fun _ => registersSafe_rReceive hs b
  | rs => exact registersSafe_ite hs fun _ => registersSafe_sReceive hs b

theorem registersSafe_sRx (pick : Nat) : registersSafe (sRx pick s) := by
  obtain he | ⟨b, -, -, he⟩ := sRx_cases s pick <;> rw [he]
  · exact hs
  · exact registersSafe_sReceive (registersSafe_of_same hs) b

theorem registersSafe_rRx (pick : Nat) : registersSafe (rRx pick s) := by
  obtain he | ⟨b, -, -, he⟩ := rRx_cases s pick <;> rw [he]
  · exact hs
  · exact registersSafe_rReceive (registersSafe_of_same hs) b

/-- `CMD.RESET` writes reset values and leaves the stored bytes of `SRC` (R300; entry 17). -/
theorem registersSafe_cmdReset : registersSafe (cmdReset s) := by
  obtain ⟨-, -, hm⟩ := (registersSafe_iff s).1 hs
  exact (registersSafe_iff _).2 ⟨sndRegsSafe_reset, rcvRegsSafe_reset, hm⟩

theorem registersSafe_sOpen : registersSafe (sOpen s) := registersSafe_of_snd hs (sndRegsSafe_sOpen s)

theorem registersSafe_cmdStart : registersSafe (cmdStart s) := by
  unfold cmdStart
  split_ifs
  · exact registersSafe_sOpen hs
  · exact registersSafe_of_snd hs (sndRegsSafe_of_registersSafe hs) rfl rfl

/-- `CMD.CFGWR` writes configuration registers only, but for `SRC`, whose new bytes are stored canonically (R292). -/
theorem registersSafe_cfgWrite (w : CfgWrite) : registersSafe (cfgWrite w s) := by
  cases w with
  | src v =>
    obtain ⟨hx, hr, -⟩ := (registersSafe_iff s).1 hs
    exact (registersSafe_iff _).2 ⟨hx, hr, memOfBytes_wf v⟩
  | _ => exact registersSafe_of_same hs rfl rfl rfl

theorem registersSafe_chanLose (d : Dir) (n : Nat) : registersSafe (chanLose d n s) := by
  unfold chanLose
  split
  · exact hs
  · exact registersSafe_of_same hs

/-- Every operation keeps the registers, sub-operations and frames issued by themselves included. -/
theorem registersSafe_exec {i : Instr} {t : State} (h : exec i s = .next t) : registersSafe t := by
  have hx := sndRegsSafe_of_registersSafe hs
  have hr := rcvRegsSafe_of_registersSafe hs
  cases i with
  | syn d w | synack d w | ack d w | data d w | fin d w => cases h; exact registersSafe_pollDatagram hs d _
  | encode p =>
    simp only [exec, execEncode] at h
    split_ifs at h
    cases h
    exact registersSafe_of_same hs
  | decode | flip6 | classify => cases h; exact registersSafe_of_same hs
  | pldSubmit | pldProcess | pldDrop | pldDup | pldCorrupt | pldDelay | pldPass | pldTickheld | pldBypass | xmit =>
    cases h; exact registersSafe_of_same hs
  | pldHold | dlyFire => cases h; exact registersSafe_ite hs fun _ => registersSafe_of_same hs
  | sOpen => cases h; exact registersSafe_ite hs fun _ => registersSafe_sOpen hs
  | sRx pick => cases h; exact registersSafe_sRx hs pick
  | sRxCorrupt => cases h; exact registersSafe_of_same hs rfl
  | sRxSynack p =>
    cases h
    exact registersSafe_ite hs fun g => registersSafe_of_snd hs (sndRegsSafe_sRxSynack hx p g.1)
  | sHsack => cases h; exact registersSafe_ite hs fun g => registersSafe_of_snd hs (sndRegsSafe_sHsack hx g)
  | sSend => cases h; exact registersSafe_ite hs fun _ => registersSafe_of_snd hs ((sndRegsSafe_sSend s).2 hx)
  | sRxAck p => cases h; exact registersSafe_ite hs fun _ => registersSafe_of_snd hs (sndRegsSafe_sRxAck hx p)
  | sAckFwd a =>
    cases h
    exact registersSafe_ite hs fun _ => registersSafe_of_snd hs ((sndRegsSafe_sAckFwd s a).2 hx)
  | sAckStale a => cases h; exact registersSafe_ite hs fun _ => registersSafe_of_snd hs (sndRegsSafe_sAckStale hx a)
  | sFastretx a => cases h; exact registersSafe_of_snd hs ((sndRegsSafe_sFastretx s a).2 hx)
  | sTimeout => cases h; exact registersSafe_ite hs fun _ => registersSafe_of_snd hs hx
  | sFin =>
    cases h
    refine registersSafe_ite hs fun g => registersSafe_of_snd hs (sndRegsSafe_sFin hx ?_)
    simp only [sFinEnabled, Bool.and_eq_true, decide_eq_true_eq] at g
    exact g.1
  | sRxFinack p => cases h; exact registersSafe_ite hs fun _ => registersSafe_of_snd hs hx
  | sRxPeerfin p =>
    cases h
    exact registersSafe_ite hs fun _ => registersSafe_of_snd hs (sndRegsSafe_sRxPeerfin s p hx)
  | sRxDiscard => cases h; exact hs
  | rRx pick => cases h; exact registersSafe_rRx hs pick
  | rRxCorrupt => cases h; exact registersSafe_of_same hs
  | rRxSyn p => cases h; exact registersSafe_ite hs fun _ => registersSafe_of_rcv hs (rcvRegsSafe_rRxSyn hr p)
  | rSynack => cases h; exact registersSafe_ite hs fun g => registersSafe_of_rcv hs (rcvRegsSafe_rSynack hr g)
  | rRxHsack p =>
    cases h
    exact registersSafe_ite hs fun g => registersSafe_of_rcv hs (rcvRegsSafe_rRxHsack hr p g.1)
  | rRxData p => cases h; exact registersSafe_ite hs fun _ => registersSafe_of_rcv hs (rcvRegsSafe_rRxData hr p)
  | rDataInorder p =>
    cases h
    exact registersSafe_ite hs fun _ => registersSafe_of_rcv hs (rcvRegsSafe_rDataInorder hr p)
  | rDataOoo p => cases h; exact registersSafe_ite hs fun _ => registersSafe_of_rcv hs (rcvRegsSafe_rDataOoo hr p)
  | rRxFin p => cases h; exact registersSafe_ite hs fun _ => registersSafe_of_rcv hs (rcvRegsSafe_rRxFin hr p)
  | rClose => cases h; exact registersSafe_ite hs fun g => registersSafe_of_rcv hs (rcvRegsSafe_rClose hr g)
  | rRxLastack p =>
    cases h
    exact registersSafe_ite hs fun g => registersSafe_of_rcv hs (rcvRegsSafe_rRxLastack hr p g.1)
  | rRxDiscard => cases h; exact hs
  | cmdReset => cases h; exact registersSafe_cmdReset hs
  | cmdStart => cases h; exact registersSafe_ite hs fun _ => registersSafe_cmdStart hs
  | cmdCfgwr w => cases h; exact registersSafe_ite hs fun _ => registersSafe_cfgWrite hs w
  | clockAdvance => cases h; exact registersSafe_ite hs fun _ => registersSafe_of_same hs
  | chanLose d n => cases h; exact registersSafe_chanLose hs d n

end Operations

/-- Settles O59: by the three things a step can do (`step_cases`), each on a state that differs in its schedule only. -/
theorem stepKeepsFlagsAndMemories : Obligations.StepKeepsFlagsAndMemories := by
  intro s t hs h
  obtain rfl | ⟨slot, rest, -, ⟨i, -, -, hi⟩ | ⟨d, b, -, rfl⟩⟩ := step_cases s t h
  · exact hs
  · exact registersSafe_exec (registersSafe_of_same hs) hi
  · exact registersSafe_pollDatagram (registersSafe_of_same hs) d b

end Sys2Proof.Proofs.Scope

namespace Sys2Proof.Proofs.StateFamily

open Sys2Proof Sys2Proof.Machine Sys2Proof.Proofs.Scope

/-! ## Only the owner's operations write a register (R42, R283) -/

/-- What R42 and R283 allow an operation of owner `o` to have changed from `s` to `t`. -/
def ownerLaw (o : Owner) (s t : State) : Prop :=
  (o ≠ .snd → sameSender s t) ∧ (o ≠ .rcv → sameReceiver s t) ∧
    (o ≠ .snd → o ≠ .dly → t.pld = s.pld ∧ t.logS = s.logS) ∧
    (o ≠ .host → t.cfg = s.cfg ∧ t.src = s.src) ∧ (o ≠ .clock → t.now = s.now) ∧
    (o = .codec ∨ o = .host ∨ o = .clock → t.chanSR = s.chanSR ∧ t.chanRS = s.chanRS) ∧
    (o = .dly → t.chanRS = s.chanRS ∧ t.cntS = s.cntS ∧ t.cntR = s.cntR) ∧
    (o ≠ .codec → t.result = s.result) ∧ t.env.sched = s.env.sched

section OwnerLaw

variable {s t : State}

theorem ownerLaw_refl (o : Owner) (s : State) : ownerLaw o s s := by
  simp [ownerLaw, sameSender, sameReceiver]

/-- An operation behind a guard has only its enabled case to answer for (entry 4). -/
theorem ownerLaw_ite {o : Owner} {g : Prop} [Decidable g] (ht : g → ownerLaw o s t) :
    ownerLaw o s (if g then t else s) := by
  split_ifs with hg
  · exact ht hg
  · exact ownerLaw_refl o s

/-- The sender's operations, the injector's among them. -/
theorem ownerLaw_snd (hrcv : sameReceiver s t := by simp [sameReceiver]) (hcfg : t.cfg = s.cfg := by simp)
    (hsrc : t.src = s.src := by simp) (hnow : t.now = s.now := by simp)
    (hresult : t.result = s.result := by simp) (hsched : t.env.sched = s.env.sched := by simp) :
    ownerLaw .snd s t := by
  simp [ownerLaw, hrcv, hcfg, hsrc, hnow, hresult, hsched]

/-- The receiver's operations. -/
theorem ownerLaw_rcv (hsnd : sameSender s t := by simp [sameSender]) (hpld : t.pld = s.pld := by simp)
    (hlog : t.logS = s.logS := by simp) (hcfg : t.cfg = s.cfg := by simp) (hsrc : t.src = s.src := by simp)
    (hnow : t.now = s.now := by simp) (hresult : t.result = s.result := by simp)
    (hsched : t.env.sched = s.env.sched := by simp) : ownerLaw .rcv s t := by
  simp [ownerLaw, hsnd, hpld, hlog, hcfg, hsrc, hnow, hresult, hsched]

theorem ownerLaw_withResult (x : Result) : ownerLaw .codec s (s.withResult x) := by
  simp [ownerLaw, sameSender, sameReceiver]

theorem ownerLaw_dlyFire (m : Pending) : ownerLaw .dly s (dlyFire m s) := by
  have hpld : (dlyFire m s).pld.held = s.pld.held ∧ (dlyFire m s).pld.wait = s.pld.wait := by
    unfold dlyFire
    dsimp only
    split_ifs <;> simp [takeAnomaly]
  simp [ownerLaw, sameSender, sameReceiver, hpld]

theorem ownerLaw_cfgWrite (w : CfgWrite) : ownerLaw .host s (cfgWrite w s) := by
  cases w <;> simp [ownerLaw, sameSender, sameReceiver, cfgWrite]

theorem ownerLaw_withNow (x : Time) : ownerLaw .clock s (s.withNow x) := by
  simp [ownerLaw, sameSender, sameReceiver]

theorem ownerLaw_chanLose (d : Dir) (n : Nat) : ownerLaw .chan s (chanLose d n s) := by
  unfold chanLose
  split
  · exact ownerLaw_refl _ s
  · simp [ownerLaw, sameSender, sameReceiver]

theorem ownerLaw_cmdStart : ownerLaw .snd s (cmdStart s) := by
  unfold cmdStart
  split_ifs
  · exact ownerLaw_snd
  · simp only [takeAnomaly]
    exact ownerLaw_snd

theorem ownerLaw_pollDatagram (d : Dir) (b : Bytes) : ownerLaw (pollOwner d) s (pollDatagram d b s) := by
  cases d with
  | sr => exact ownerLaw_ite fun _ => ownerLaw_rcv
  | rs => exact ownerLaw_ite fun _ => ownerLaw_snd

theorem ownerLaw_sRx (pick : Nat) : ownerLaw .snd s (sRx pick s) := by
  obtain he | ⟨b, -, -, he⟩ := sRx_cases s pick <;> rw [he]
  · exact ownerLaw_refl _ s
  · exact ownerLaw_snd

theorem ownerLaw_rRx (pick : Nat) : ownerLaw .rcv s (rRx pick s) := by
  obtain he | ⟨b, -, -, he⟩ := rRx_cases s pick <;> rw [he]
  · exact ownerLaw_refl _ s
  · exact ownerLaw_rcv

/-- Every operation but reset writes only what its owner owns. -/
theorem ownerLaw_exec {i : Instr} (h : exec i s = .next t) (hi : ownerOf i ≠ .reset) : ownerLaw (ownerOf i) s t := by
  cases i with
  | syn d w | synack d w | ack d w | data d w | fin d w => cases h; exact ownerLaw_pollDatagram d _
  | encode p =>
    simp only [exec, execEncode] at h
    split_ifs at h
    cases h
    exact ownerLaw_withResult _
  | decode | flip6 | classify => cases h; exact ownerLaw_withResult _
  | pldSubmit | pldProcess | pldDrop | pldDup | pldCorrupt | pldDelay | pldPass | pldTickheld | pldBypass | xmit
  | sRxCorrupt | sFastretx | sRxDiscard => cases h; exact ownerLaw_snd
  | pldHold | sOpen | sRxSynack | sHsack | sSend | sRxAck | sAckFwd | sAckStale | sTimeout | sFin | sRxFinack
  | sRxPeerfin => cases h; exact ownerLaw_ite fun _ => ownerLaw_snd
  | dlyFire m => cases h; exact ownerLaw_ite fun _ => ownerLaw_dlyFire m
  | sRx pick => cases h; exact ownerLaw_sRx pick
  | rRx pick => cases h; exact ownerLaw_rRx pick
  | rRxCorrupt | rRxDiscard => cases h; exact ownerLaw_rcv
  | rRxSyn | rSynack | rRxHsack | rRxData | rDataInorder | rDataOoo | rRxFin | rClose | rRxLastack =>
    cases h; exact ownerLaw_ite fun _ => ownerLaw_rcv
  | cmdReset => exact absurd rfl hi
  | cmdStart => cases h; exact ownerLaw_ite fun _ => ownerLaw_cmdStart
  | cmdCfgwr w => cases h; exact ownerLaw_ite fun _ => ownerLaw_cfgWrite w
  | clockAdvance => cases h; exact ownerLaw_ite fun _ => ownerLaw_withNow _
  | chanLose d n => cases h; exact ownerLaw_chanLose d n

end OwnerLaw

/-- Settles O51: by the owner of each operation, whose rules write only what that owner owns. -/
theorem onlyTheOwnerWrites : Obligations.OnlyTheOwnerWrites := fun _ _ _ h hi => ownerLaw_exec h hi

/-! ## What an operation of the sender can do

The invariants over the sender's registers and the hold are each derived from the one list of rules below. -/

/-- What an injector operation can do to the hold: nothing, set its wait to 0, or lengthen the wait within its bound
(R156, R159). -/
inductive HoldMove (bound : Nat) (x y : Pld) : Prop where
  | same (held : y.held = x.held) (wait : y.wait = x.wait)
  | restarted (wait : y.wait = 0)
  | longer (held : y.held = x.held) (occupied : x.held ≠ none) (below : y.wait < bound)

/-- The sender's rules with the guards that the invariants rest on; `injected` covers the injector's operations. -/
inductive SndRule (s : State) : State → Prop where
  | nothing : SndRule s s
  | injected {t : State} (snd : t.snd = s.snd) (cfg : t.cfg = s.cfg)
      (hold : HoldMove s.cfg.reorderMaxDelay s.pld t.pld) : SndRule s t
  | opened (idle : s.snd.phase = .idle) (legal : senderConfigLegal s.cfg = true) : SndRule s (sOpen s)
  | configError : SndRule s (takeAnomaly (.config .snd) s)
  | synack (p : Packet) (phase : s.snd.phase = .synSent) : SndRule s (sRxSynack p s)
  | hsack (phase : s.snd.phase = .established) : SndRule s (sHsack s)
  | send (enabled : sSendEnabled s = true) : SndRule s (sSend s)
  | ackFwd (a : Nat) (above : s.snd.una < a) (sent : a ≤ s.snd.max) : SndRule s (sAckFwd a s)
  | ackStale (a : Nat) : SndRule s (sAckStale a s)
  | fastretx (a : Nat) : SndRule s (sFastretx a s)
  | timeout : SndRule s (sTimeout s)
  | fin (phase : s.snd.phase = .dataTransfer) : SndRule s (sFin s)
  | finack (p : Packet) : SndRule s (sRxFinack p s)
  | peerfin (p : Packet) (phase : s.snd.phase = .finWait) : SndRule s (sRxPeerfin p s)

section Injector

variable (f : Bytes) (dest : Addr) (retx : Bool) (s : State)

theorem holdMove_tickHeld : HoldMove s.cfg.reorderMaxDelay s.pld (tickHeld s).pld := by
  unfold tickHeld
  split
  next => exact .same rfl rfl
  next h hh =>
    split_ifs with hw
    · exact .restarted rfl
    · exact .longer rfl (by simp [hh]) (Nat.lt_of_not_le hw)

/-- A tick behind a branch that leaves the hold alone. -/
theorem holdMove_tickHeld_of_same {u : State} (held : u.pld.held = s.pld.held := by simp)
    (wait : u.pld.wait = s.pld.wait := by simp) (cfg : u.cfg = s.cfg := by simp) :
    HoldMove s.cfg.reorderMaxDelay s.pld (tickHeld u).pld := by
  cases holdMove_tickHeld u with
  | same h w => exact .same (h.trans held) (w.trans wait)
  | restarted w => exact .restarted w
  | longer h hs w => exact .longer (h.trans held) (held ▸ hs) (cfg ▸ w)

@[simp] theorem pldDelay_held : (pldDelay f dest retx s).pld.held = s.pld.held := rfl

@[simp] theorem pldDelay_wait : (pldDelay f dest retx s).pld.wait = s.pld.wait := rfl

theorem holdMove_pldProcess : HoldMove s.cfg.reorderMaxDelay s.pld (pldProcess f dest retx s).pld := by
  unfold pldProcess
  split_ifs
  · exact .same rfl rfl
  · exact holdMove_tickHeld_of_same s
  · exact holdMove_tickHeld_of_same s
  · exact .restarted rfl
  all_goals exact holdMove_tickHeld_of_same s

theorem holdMove_pldSubmit (ty : FrameType) :
    HoldMove s.cfg.reorderMaxDelay s.pld (pldSubmit f ty dest retx s).pld := by
  unfold pldSubmit
  split_ifs
  · exact holdMove_pldProcess f dest retx s
  · exact .same (by simp) (by simp)

/-- A submission within a rule that has written other registers before it. -/
theorem holdMove_pldSubmit_of_same {f : Bytes} {ty : FrameType} {dest : Addr} {retx : Bool} {s u : State}
    (pld : u.pld = s.pld := by simp) (cfg : u.cfg = s.cfg := by simp) :
    HoldMove s.cfg.reorderMaxDelay s.pld (pldSubmit f ty dest retx u).pld := by
  rw [← pld, ← cfg]
  exact holdMove_pldSubmit f dest retx u ty

end Injector

section Rules

variable (s : State)

/-- An operation behind a guard runs its rule or nothing (entry 4). -/
theorem SndRule.ite {s t : State} {g : Prop} [Decidable g] (ht : g → SndRule s t) :
    SndRule s (if g then t else s) := by
  split_ifs with hg
  · exact ht hg
  · exact .nothing

/-- An injector operation that leaves the hold alone. -/
theorem SndRule.of_same_hold {s t : State} (snd : t.snd = s.snd := by simp) (cfg : t.cfg = s.cfg := by simp)
    (held : t.pld.held = s.pld.held := by simp) (wait : t.pld.wait = s.pld.wait := by simp) : SndRule s t :=
  .injected snd cfg (.same held wait)

theorem sndRule_sRxAck (p : Packet) : SndRule s (sRxAck p s) := by
  unfold sRxAck
  split_ifs with hmax huna
  · exact .nothing
  · exact .ackFwd _ huna (Nat.le_of_not_lt hmax)
  · exact .ackStale _

theorem sndRule_sDispatch (p : Packet) : SndRule s (sDispatch p s) := by
  unfold sDispatch
  split
  next hp _ => exact .synack p hp
  next => exact sndRule_sRxAck s p
  next => exact .ite fun _ => .finack p
  next hp _ => exact .ite fun _ => .peerfin p hp
  next => exact .nothing

theorem sndRule_cmdStart (hidle : s.snd.phase = .idle) : SndRule s (cmdStart s) := by
  unfold cmdStart
  split_ifs with hlegal
  · exact .opened hidle hlegal
  · exact .configError

/-- The state a receive step of the sender has when it runs a rule: a datagram fewer in `chan.RS`, a record more in the
log (R185). -/
def polled (c : List Bytes) (l : List LogRec) (s : State) : State := (s.withChanRS c).withLogS l

theorem sndRule_sReceive (b : Bytes) : ∃ l, SndRule (s.withLogS l) (sReceive b s) := by
  obtain ⟨c, -, he⟩ | ⟨p, -, he⟩ := sReceive_cases s b <;> rw [he]
  · exact ⟨_, .nothing⟩
  · exact ⟨_, sndRule_sDispatch _ p⟩

theorem sndRule_sRx (pick : Nat) : ∃ c l, SndRule (polled c l s) (sRx pick s) := by
  obtain he | ⟨b, -, -, he⟩ := sRx_cases s pick <;> rw [he]
  · exact ⟨s.chanRS, s.logS, .nothing⟩
  · exact ⟨_, sndRule_sReceive _ b⟩

theorem sndRule_pollDatagram (b : Bytes) : ∃ l, SndRule (polled s.chanRS l s) (pollDatagram .rs b s) := by
  obtain he | ⟨-, he⟩ := pollDatagram_rs s b <;> rw [he]
  · exact ⟨s.logS, .nothing⟩
  · exact sndRule_sReceive s b

/-- Every operation of the sender runs one of its rules, a receive step on the state it polled. -/
theorem sndRule_exec {i : Instr} {t : State} (h : exec i s = .next t) (hi : ownerOf i = .snd) :
    ∃ c l, SndRule (polled c l s) t := by
  have rule : SndRule s t → ∃ c l, SndRule (polled c l s) t := fun r => ⟨s.chanRS, s.logS, r⟩
  cases i with
  | syn d w | synack d w | ack d w | data d w | fin d w =>
    cases d <;> cases hi
    cases h
    exact ⟨_, sndRule_pollDatagram s _⟩
  | sRx pick => cases h; exact sndRule_sRx s pick
  | sRxCorrupt b c => cases h; exact ⟨s.chanRS, _, .nothing⟩
  | pldSubmit f ty dest retx =>
    cases h; exact rule (.injected (by simp) (by simp) (holdMove_pldSubmit f dest retx s ty))
  | pldProcess f dest retx =>
    cases h; exact rule (.injected (by simp) (by simp) (holdMove_pldProcess f dest retx s))
  | pldHold => cases h; exact rule (.ite fun _ => .injected (by simp) (by simp) (.restarted rfl))
  | pldTickheld => cases h; exact rule (.injected (by simp) (by simp) (holdMove_tickHeld s))
  | pldDrop | pldDup | pldCorrupt | pldDelay | pldPass | pldBypass | xmit => cases h; exact rule .of_same_hold
  | sOpen => cases h; exact rule (.ite fun g => .opened g.1 g.2)
  | sRxSynack p => cases h; exact rule (.ite fun g => .synack p g.1)
  | sHsack => cases h; exact rule (.ite .hsack)
  | sSend => cases h; exact rule (.ite .send)
  | sRxAck p => cases h; exact rule (.ite fun _ => sndRule_sRxAck s p)
  | sAckFwd a => cases h; exact rule (.ite fun g => .ackFwd a g.1 g.2)
  | sAckStale a => cases h; exact rule (.ite fun _ => .ackStale a)
  | sFastretx a => cases h; exact rule (.fastretx a)
  | sTimeout => cases h; exact rule (.ite fun _ => .timeout)
  | sFin =>
    cases h
    refine rule (.ite fun g => .fin ?_)
    simp only [sFinEnabled, Bool.and_eq_true, decide_eq_true_eq] at g
    exact g.1
  | sRxFinack p => cases h; exact rule (.ite fun _ => .finack p)
  | sRxPeerfin p => cases h; exact rule (.ite fun g => .peerfin p g.1)
  | sRxDiscard => cases h; exact rule .nothing
  | cmdStart => cases h; exact rule (.ite (sndRule_cmdStart s))
  | _ => cases hi

end Rules

/-! ## The sender's pointers and outstanding segments (R32, R41, R205) -/

/-- Where each entry of a queue starts and how long it is, which is all that R41 reads of it. -/
def spans (q : List OutSeg) : List (Nat × Nat) := q.map fun e => (e.seq, e.len)

/-- The sender's registers that its invariants read. -/
structure SndView where
  phase : SndPhase
  base : Nat
  una : Nat
  nxt : Nat
  max : Nat
  segs : List (Nat × Nat)
  cfgErr : Bool

def view (x : Snd) : SndView := ⟨x.phase, x.base, x.una, x.nxt, x.max, spans x.outq, x.cfgErr⟩

theorem spans_filter (a : Nat) (q : List OutSeg) : spans (q.filter fun e => decide (a < e.seq + e.len)) =
    (spans q).filter fun e => decide (a < e.1 + e.2) := by
  rw [spans, spans, List.filter_map]
  rfl

/-- The marks of a fast retransmission move no segment (R193). -/
@[simp] theorem spans_markResent (a : Nat) (t : Time) (q : List OutSeg) : spans (markResent a t q) = spans q := by
  unfold spans markResent
  rw [List.map_map]
  refine List.map_congr_left fun e _ => ?_
  simp only [Function.comp_apply]
  split_ifs <;> rfl

section Rules

variable (s : State) (a : Nat)

@[simp] theorem rttArm_view : view (rttArm s).snd = view s.snd := by
  unfold rttArm
  split <;> rfl

@[simp] theorem rttSample_view (t : Timed) : view (rttSample a t s).snd = view s.snd := by
  unfold rttSample
  dsimp only
  split_ifs <;> rfl

@[simp] theorem rttCycle_view : view (rttCycle a s).snd = view s.snd := by
  unfold rttCycle
  split_ifs <;> rfl

/-- The round-trip measurement moves no pointer and no segment (R203). -/
@[simp] theorem rttOnFwdAck_view : view (rttOnFwdAck a s).snd = view s.snd := by
  unfold rttOnFwdAck
  split <;> simp

/-- `S.OPEN` (R184): every pointer at the base, nothing outstanding. -/
theorem sOpen_view : view (sOpen s).snd = ⟨.synSent, s.cfg.isnS + 1, s.cfg.isnS + 1, s.cfg.isnS + 1,
    s.cfg.isnS + 1, [], s.snd.cfgErr⟩ := by
  simp [sOpen, sOpenRegs, setSndPhase, view, spans]

theorem sRxSynack_view (p : Packet) : view (sRxSynack p s).snd = { view s.snd with phase := .established } := rfl

theorem sHsack_view : view (sHsack s).snd = { view s.snd with phase := .dataTransfer } := by
  simp [sHsack, setSndPhase, view]

/-- `S.SEND` (R189): the segment at the cursor is outstanding, and the cursor passes it. -/
theorem sSend_view : view (sSend s).snd = { view s.snd with
    nxt := s.snd.nxt + segLen s s.snd.nxt
    max := max s.snd.max (s.snd.nxt + segLen s s.snd.nxt)
    segs := spans s.snd.outq ++ [(s.snd.nxt, segLen s s.snd.nxt)] } := by
  rw [sSend, rttArm_view]
  simp [view, spans, max_def]

/-- `S.ACK_FWD` (R191): the cursor is at least at the number, and what ends behind the number stays outstanding. -/
theorem sAckFwd_view : view (sAckFwd a s).snd = { view s.snd with
    una := a
    nxt := max s.snd.nxt a
    segs := (spans s.snd.outq).filter fun e => decide (a < e.1 + e.2) } := by
  have hnxt : (if s.snd.nxt < a then a else s.snd.nxt) = max s.snd.nxt a := by
    split_ifs <;> omega
  rw [sAckFwd, rttOnFwdAck_view]
  simp [view, hnxt, spans_filter]

theorem sFastretx_view : view (sFastretx a s).snd = view s.snd := by
  unfold sFastretx
  split_ifs
  · simp [view]
  · rfl

theorem sAckStale_view : view (sAckStale a s).snd = view s.snd := by
  unfold sAckStale
  dsimp only
  split_ifs
  · rw [sFastretx_view]
    rfl
  · rfl

theorem sFin_view : view (sFin s).snd = { view s.snd with phase := .finWait } := by simp [sFin, view]

theorem sRxPeerfin_view (p : Packet) : view (sRxPeerfin p s).snd = { view s.snd with phase := .closed } := by
  simp [sRxPeerfin, view]

end Rules

section Phases

variable (s : State) (a : Nat)

@[simp] theorem sHsack_phase : (sHsack s).snd.phase = .dataTransfer := rfl

@[simp] theorem sSend_phase : (sSend s).snd.phase = s.snd.phase := congrArg SndView.phase (sSend_view s)

@[simp] theorem sAckFwd_phase : (sAckFwd a s).snd.phase = s.snd.phase := congrArg SndView.phase (sAckFwd_view s a)

@[simp] theorem sFastretx_phase : (sFastretx a s).snd.phase = s.snd.phase :=
  congrArg SndView.phase (sFastretx_view s a)

@[simp] theorem sAckStale_phase : (sAckStale a s).snd.phase = s.snd.phase :=
  congrArg SndView.phase (sAckStale_view s a)

@[simp] theorem sFin_phase : (sFin s).snd.phase = .finWait := rfl

@[simp] theorem sRxPeerfin_phase (p : Packet) : (sRxPeerfin p s).snd.phase = .closed := rfl

end Phases

/-- What a sender's rule can do to the pointers, the outstanding segments and the error flag. -/
inductive SndMove (s t : State) : Prop where
  | kept (phase : SndPhase) (err : Bool) (idle : phase = .idle ↔ s.snd.phase = .idle)
      (sticky : s.snd.cfgErr = true → err = true)
      (eq : view t.snd = { view s.snd with phase := phase, cfgErr := err })
  | opened (legal : senderConfigLegal s.cfg = true)
      (eq : view t.snd = ⟨.synSent, s.cfg.isnS + 1, s.cfg.isnS + 1, s.cfg.isnS + 1, s.cfg.isnS + 1, [], s.snd.cfgErr⟩)
  | sent (enabled : sSendEnabled s = true)
      (eq : view t.snd = { view s.snd with
        nxt := s.snd.nxt + segLen s s.snd.nxt
        max := max s.snd.max (s.snd.nxt + segLen s s.snd.nxt)
        segs := spans s.snd.outq ++ [(s.snd.nxt, segLen s s.snd.nxt)] })
  | acked (a : Nat) (above : s.snd.una < a) (upto : a ≤ s.snd.max)
      (eq : view t.snd = { view s.snd with
        una := a
        nxt := max s.snd.nxt a
        segs := (spans s.snd.outq).filter fun e => decide (a < e.1 + e.2) })
  | rewound (eq : view t.snd = { view s.snd with nxt := s.snd.una, segs := [] })

section Moves

variable {s t : State}

theorem SndRule.cfg (h : SndRule s t) : t.cfg = s.cfg := by
  cases h with
  | injected _ cfg => exact cfg
  | configError => rfl
  | _ => simp

theorem SndMove.of_view_eq (eq : view t.snd = view s.snd) : SndMove s t :=
  .kept s.snd.phase s.snd.cfgErr .rfl id eq

/-- A move between two phases other than `IDLE`. -/
theorem SndMove.of_phase {x y : SndPhase} (hs : s.snd.phase = x) (hx : x ≠ .idle) (hy : y ≠ .idle)
    (eq : view t.snd = { view s.snd with phase := y }) : SndMove s t :=
  .kept y s.snd.cfgErr (by simp [hs, hx, hy]) id eq

theorem SndRule.move (h : SndRule s t) : SndMove s t := by
  cases h with
  | nothing | finack => exact .of_view_eq rfl
  | injected snd => exact .of_view_eq (by rw [snd])
  | opened idle legal => exact .opened legal (sOpen_view s)
  | configError => exact .kept s.snd.phase true .rfl (fun _ => rfl) rfl
  | synack p phase => exact .of_phase phase (by decide) (by decide) (sRxSynack_view s p)
  | hsack phase => exact .of_phase phase (by decide) (by decide) (sHsack_view s)
  | send enabled => exact .sent enabled (sSend_view s)
  | ackFwd a above sent => exact .acked a above sent (sAckFwd_view s a)
  | ackStale a => exact .of_view_eq (sAckStale_view s a)
  | fastretx a => exact .of_view_eq (sFastretx_view s a)
  | timeout => exact .rewound rfl
  | fin phase => exact .of_phase phase (by decide) (by decide) (sFin_view s)
  | peerfin p phase => exact .of_phase phase (by decide) (by decide) (sRxPeerfin_view s p)

end Moves

/-! ### The order of the pointers and the window -/

/-- `windowSafe` as a property of the configuration and the sender's view. -/
def windowOk (c : Cfg) (v : SndView) : Prop :=
  v.base ≤ v.una ∧ v.una ≤ v.nxt ∧ v.nxt ≤ v.max ∧ v.max ≤ v.base + c.srcLen ∧ v.max < 2 ^ 32 ∧
    v.nxt - v.una ≤ c.window ∧ (v.phase = .idle → v.max = 0) ∧
    (v.phase ≠ .idle → senderConfigLegal c = true ∧ v.base = c.isnS + 1)

theorem windowSafe_iff (s : State) : windowSafe s ↔ windowOk s.cfg (view s.snd) := .rfl

/-- The numbers of an accepted configuration fit in 32 bits, and its segments are not empty (R306). -/
theorem senderConfigLegal_bounds {c : Cfg} (h : senderConfigLegal c = true) :
    1 ≤ c.mss ∧ 1 ≤ c.reorderMaxDelay ∧ c.isnS + c.srcLen + 2 < 2 ^ 32 := by
  simp only [senderConfigLegal, Bool.and_eq_true, decide_eq_true_eq] at h
  obtain ⟨⟨⟨⟨⟨⟨⟨hmss, -⟩, -⟩, -⟩, -⟩, hdelay⟩, -⟩, hisn⟩ := h
  exact ⟨hmss, hdelay, hisn⟩

/-- The guard of `S.SEND` (R189): source bytes are left at the cursor, and the segment fits in the window. -/
theorem sSendEnabled_bounds {s : State} (h : sSendEnabled s = true) : s.snd.phase = .dataTransfer ∧
    s.snd.base ≤ s.snd.nxt ∧ off s s.snd.nxt < s.cfg.srcLen ∧
    s.snd.nxt - s.snd.una + segLen s s.snd.nxt ≤ s.cfg.window := by
  simpa only [sSendEnabled, Bool.and_eq_true, decide_eq_true_eq, and_assoc] using h

section Window

variable {s t : State}

theorem SndMove.keepsWindow (hw : windowSafe s) (hc : t.cfg = s.cfg) (h : SndMove s t) : windowSafe t := by
  obtain ⟨hbase, huna, hnxt, hend, hmax, hwin, hidle, hlegal⟩ := (windowSafe_iff s).1 hw
  dsimp only [view] at hbase huna hnxt hend hmax hwin hidle hlegal
  rw [windowSafe_iff, hc]
  cases h with
  | kept phase err idle _ eq =>
    rw [eq]
    exact ⟨hbase, huna, hnxt, hend, hmax, hwin, fun hp => hidle (idle.1 hp), fun hp => hlegal (mt idle.2 hp)⟩
  | opened legal eq =>
    rw [eq]
    have := (senderConfigLegal_bounds legal).2.2
    refine ⟨le_rfl, le_rfl, le_rfl, ?_, ?_, ?_, nofun, fun _ => ⟨legal, rfl⟩⟩ <;> dsimp only <;> omega
  | sent enabled eq =>
    rw [eq]
    obtain ⟨hphase, hpos, hoff, hfit⟩ := sSendEnabled_bounds enabled
    have hne : s.snd.phase ≠ .idle := by simp [hphase]
    obtain ⟨hcfg, hisn⟩ := hlegal hne
    have hsum := (senderConfigLegal_bounds hcfg).2.2
    have hseg : segLen s s.snd.nxt ≤ s.cfg.srcLen - off s s.snd.nxt := Nat.min_le_right _ _
    unfold off at hoff hseg
    refine ⟨hbase, ?_, ?_, ?_, ?_, ?_, fun hp => absurd hp hne, fun _ => ⟨hcfg, hisn⟩⟩ <;> dsimp only [view] <;>
      omega
  | acked a above upto eq =>
    rw [eq]
    refine ⟨?_, ?_, ?_, hend, hmax, ?_, hidle, hlegal⟩ <;> dsimp only [view] <;> omega
  | rewound eq =>
    rw [eq]
    exact ⟨hbase, le_rfl, huna.trans hnxt, hend, hmax, by simp [view], hidle, hlegal⟩

/-- In `IDLE` with every pointer 0 (R44) no configuration is in the way. -/
theorem windowSafe_of_zero (hp : t.snd.phase = .idle) (hbase : t.snd.base = 0) (huna : t.snd.una = 0)
    (hnxt : t.snd.nxt = 0) (hmax : t.snd.max = 0) : windowSafe t := by
  simp [windowSafe, hp, hbase, huna, hnxt, hmax]

/-- A state with the same sender and configuration. -/
theorem windowSafe_of_same (hw : windowSafe s) (hsnd : t.snd = s.snd := by simp) (hcfg : t.cfg = s.cfg := by simp) :
    windowSafe t := by
  rw [windowSafe_iff, hsnd, hcfg]
  exact hw

/-- Outside `IDLE` only the receiver's two registers can be written (R75, R292). -/
theorem cfgWrite_of_not_idle {w : CfgWrite} (hp : s.snd.phase ≠ .idle) (hen : cfgWriteEnabled w s = true) :
    ∃ isn wnd, cfgWrite w s = s.withCfg { s.cfg with isnR := isn, rcvWnd := wnd } := by
  cases w with
  | isnR v => exact ⟨v, s.cfg.rcvWnd, rfl⟩
  | rcvWnd v => exact ⟨s.cfg.isnR, v, rfl⟩
  | _ => exact absurd (by simpa [cfgWriteEnabled] using hen) hp

theorem cfgWrite_snd (w : CfgWrite) (s : State) : (cfgWrite w s).snd = s.snd := by cases w <;> rfl

theorem windowSafe_cfgWrite {w : CfgWrite} (hw : windowSafe s) (hen : cfgWriteEnabled w s = true) :
    windowSafe (cfgWrite w s) := by
  by_cases hp : s.snd.phase = .idle
  · obtain ⟨hbase, huna, hnxt, -, -, -, hidle, -⟩ := hw
    have hmax := hidle hp
    refine windowSafe_of_zero ?_ ?_ ?_ ?_ ?_ <;> rw [cfgWrite_snd]
    · exact hp
    all_goals omega
  · obtain ⟨isn, wnd, he⟩ := cfgWrite_of_not_idle hp hen
    rw [he]
    exact hw

end Window

/-! ### What one step can do to the sender -/

section Steps

variable {s t : State}

theorem ownerOf_eq_reset {i : Instr} (h : ownerOf i = .reset) : i = .cmdReset := by
  cases i with
  | cmdReset => rfl
  | syn d | synack d | ack d | data d | fin d => cases d <;> cases h
  | _ => cases h

theorem ownerOf_eq_host {i : Instr} (h : ownerOf i = .host) : ∃ w, i = .cmdCfgwr w := by
  cases i with
  | cmdCfgwr w => exact ⟨w, rfl⟩
  | syn d | synack d | ack d | data d | fin d => cases d <;> cases h
  | _ => cases h

/-- Reset, a configuration write, a rule of the sender, or an operation of another owner, which leaves alone what the
sender owns and the configuration (R42). -/
theorem exec_cases {i : Instr} (h : exec i s = .next t) :
    t = cmdReset s ∨ t = s ∨ (∃ w, cfgWriteEnabled w s = true ∧ t = cfgWrite w s) ∨
      (∃ c l, SndRule (polled c l s) t) ∨ sameSender s t ∧ t.cfg = s.cfg := by
  by_cases hreset : ownerOf i = .reset
  · cases ownerOf_eq_reset hreset
    cases h
    exact .inl rfl
  obtain ⟨hsnd, -, -, hcfg, -⟩ := ownerLaw_exec h hreset
  by_cases hhost : ownerOf i = .host
  · obtain ⟨w, rfl⟩ := ownerOf_eq_host hhost
    cases h
    split_ifs with hw
    · exact .inr (.inr (.inl ⟨w, hw, rfl⟩))
    · exact .inr (.inl rfl)
  by_cases howner : ownerOf i = .snd
  · exact .inr (.inr (.inr (.inl (sndRule_exec s h howner))))
  · exact .inr (.inr (.inr (.inr ⟨hsnd howner, (hcfg hhost).1⟩)))

/-- A property of what the sender owns and of the configuration is kept by every step if the sender's rules and
configuration writes keep it and reset restores it. -/
theorem step_keeps {P : State → Prop} (same : ∀ s t, P s → sameSender s t → t.cfg = s.cfg → P t)
    (rule : ∀ s t, P s → SndRule s t → P t)
    (write : ∀ s w, P s → cfgWriteEnabled w s = true → P (cfgWrite w s)) (reset : ∀ s, P (cmdReset s))
    (hs : P s) (h : step s = .next t) : P t := by
  have hpolled : ∀ u c l, P u → P (polled c l u) := fun u c l hu => same u _ hu ⟨rfl, rfl, rfl, rfl, rfl⟩ rfl
  obtain rfl | ⟨slot, rest, -, hrun⟩ := step_cases s t h
  · exact hs
  have hu : P (s.withEnv { s.env with sched := rest }) := same s _ hs ⟨rfl, rfl, rfl, rfl, rfl⟩ rfl
  generalize s.withEnv { s.env with sched := rest } = u at hu hrun
  obtain ⟨i, -, -, hi⟩ | ⟨d, b, -, rfl⟩ := hrun
  · obtain rfl | rfl | ⟨w, hw, rfl⟩ | ⟨c, l, hr⟩ | ⟨ho, hc⟩ := exec_cases hi
    · exact reset u
    · exact hu
    · exact write u w hu hw
    · exact rule _ t (hpolled u c l hu) hr
    · exact same u t hu ho hc
  · cases d with
    | sr =>
      obtain ⟨hsnd, -, -, hcfg, -⟩ := ownerLaw_pollDatagram (s := u) .sr b
      exact same u _ hu (hsnd nofun) (hcfg nofun).1
    | rs =>
      obtain ⟨l, hr⟩ := sndRule_pollDatagram u b
      exact rule _ _ (hpolled u _ l hu) hr

end Steps

/-- Settles O54: by the moves of the sender's rules (`SndMove.keepsWindow`); no other operation but a configuration write
in `IDLE`, where every pointer is 0, reaches what the invariant reads. -/
theorem stepKeepsTheWindow : Obligations.StepKeepsTheWindow := fun _ _ hs h =>
  step_keeps (fun _ _ hu ho hc => windowSafe_of_same hu ho.1 hc) (fun _ _ hu hr => hr.move.keepsWindow hu hr.cfg)
    (fun _ _ hu hw => windowSafe_cfgWrite hu hw) (fun _ => windowSafe_of_zero rfl rfl rfl rfl rfl) hs h

/-! ## The outstanding-segment table (R32, R41) -/

/-- The segments follow one another from `lo` to `hi`. -/
def segsFrom (lo : Nat) : List (Nat × Nat) → Nat → Prop
  | [], hi => lo = hi
  | e :: q, hi => e.1 = lo ∧ segsFrom (e.1 + e.2) q hi

theorem segsFrom_append (lo hi n : Nat) (q : List (Nat × Nat)) (h : segsFrom lo q hi) :
    segsFrom lo (q ++ [(hi, n)]) (hi + n) := by
  induction q generalizing lo with
  | nil => exact ⟨h.symm, rfl⟩
  | cons e q ih => exact ⟨h.1, ih _ h.2⟩

/-- Every segment lies between the two ends. -/
theorem segsFrom_bounds {lo hi : Nat} {q : List (Nat × Nat)} (h : segsFrom lo q hi) :
    lo ≤ hi ∧ ∀ e ∈ q, lo ≤ e.1 ∧ e.1 + e.2 ≤ hi := by
  induction q generalizing lo with
  | nil => exact ⟨le_of_eq h, nofun⟩
  | cons e q ih =>
    obtain ⟨hlo, hrest⟩ := h
    obtain ⟨hle, hall⟩ := ih hrest
    refine ⟨by omega, List.forall_mem_cons.2 ⟨⟨hlo.ge, hle⟩, fun f hf => ?_⟩⟩
    obtain ⟨h1, h2⟩ := hall f hf
    exact ⟨by omega, h2⟩

/-- Dropping what ends at most at `a` leaves segments that start at most at `a`: the first one kept follows one that was
dropped, or starts the queue. -/
theorem segsFrom_filter {lo hi a : Nat} {q : List (Nat × Nat)} (h : segsFrom lo q hi) (ha : lo ≤ a) :
    ∃ lo' ≤ a, segsFrom lo' (q.filter fun e => decide (a < e.1 + e.2)) (max hi a) := by
  induction q generalizing lo with
  | nil =>
    have hmax : a = max hi a := by have : lo = hi := h; omega
    exact ⟨a, le_rfl, hmax⟩
  | cons e q ih =>
    obtain ⟨hlo, hrest⟩ := h
    obtain ⟨hle, hall⟩ := segsFrom_bounds hrest
    by_cases he : a < e.1 + e.2
    · have hkeep : (e :: q).filter (fun e => decide (a < e.1 + e.2)) = e :: q := by
        refine List.filter_eq_self.2 (List.forall_mem_cons.2 ⟨by simpa using he, fun f hf => ?_⟩)
        obtain ⟨h1, h2⟩ := hall f hf
        simp only [decide_eq_true_eq]
        omega
      rw [hkeep, max_eq_left (by omega)]
      exact ⟨lo, ha, hlo, hrest⟩
    · rw [List.filter_cons_of_neg (by simpa using he)]
      exact ih hrest (Nat.le_of_not_lt he)

/-- `outqSafe` as a property of the sender's view: the segments lead from at most `s.una` to `s.nxt`, and each ends
behind `s.una`. -/
def queueOk (v : SndView) : Prop :=
  v.una ≤ v.nxt ∧ (∀ e ∈ v.segs, v.una < e.1 + e.2) ∧ ∃ lo ≤ v.una, segsFrom lo v.segs v.nxt

/-- A queue leads from `lo` to `hi` when it is contiguous, starts at `lo` and ends at `hi`. -/
theorem segsFrom_spans_iff (lo hi : Nat) (q : List OutSeg) : segsFrom lo (spans q) hi ↔
    contiguous q ∧ (∀ e, q.head? = some e → e.seq = lo) ∧ (∀ e, q.getLast? = some e → e.seq + e.len = hi) ∧
      (q = [] → lo = hi) := by
  induction q generalizing lo with
  | nil => simp [spans, segsFrom, contiguous]
  | cons e q ih =>
    have hcons : segsFrom lo (spans (e :: q)) hi ↔ e.seq = lo ∧ segsFrom (e.seq + e.len) (spans q) hi := .rfl
    rw [hcons, ih]
    cases q with
    | nil => simp [contiguous]
    | cons f q => simp [contiguous, eq_comm]; tauto

theorem mem_spans {e : OutSeg} {q : List OutSeg} (h : e ∈ q) : (e.seq, e.len) ∈ spans q :=
  List.mem_map_of_mem h

theorem outqSafe_iff (s : State) : outqSafe s ↔ queueOk (view s.snd) := by
  constructor
  · rintro ⟨hends, hcont, hlast, hhead, hempty⟩
    have hbehind : ∀ e ∈ spans s.snd.outq, s.snd.una < e.1 + e.2 := by
      simpa [spans] using fun e he => (hends e he).1
    rcases hq : s.snd.outq with _ | ⟨e, q⟩
    · have heq := hempty hq
      exact ⟨heq.le, hbehind, s.snd.nxt, heq.ge, (segsFrom_spans_iff _ _ _).2 (by simp [hq, contiguous, view])⟩
    · obtain ⟨h1, h2⟩ := hends e (by simp [hq])
      refine ⟨(h1.trans_le h2).le, hbehind, e.seq, hhead e (by simp [hq]), (segsFrom_spans_iff _ _ _).2 ?_⟩
      exact ⟨hcont, by simp [hq], hlast, by simp [hq]⟩
  · rintro ⟨hle, hbehind, lo, hlo, hsegs⟩
    obtain ⟨hcont, hfirst, hlast, hnone⟩ := (segsFrom_spans_iff _ _ _).1 hsegs
    refine ⟨fun e he => ⟨hbehind _ (mem_spans he), ((segsFrom_bounds hsegs).2 _ (mem_spans he)).2⟩, hcont, hlast,
      fun e he => (hfirst e he).le.trans hlo, fun hq => ?_⟩
    exact le_antisymm hle ((hnone hq).ge.trans hlo)

section Queue

variable {s t : State}

theorem SndMove.keepsQueue (hw : windowSafe s) (hq : queueOk (view s.snd)) (h : SndMove s t) :
    queueOk (view t.snd) := by
  obtain ⟨hle, hbehind, lo, hlo, hsegs⟩ := hq
  cases h with
  | kept _ _ _ _ eq =>
    rw [eq]
    exact ⟨hle, hbehind, lo, hlo, hsegs⟩
  | opened _ eq =>
    rw [eq]
    exact ⟨le_rfl, nofun, _, le_rfl, rfl⟩
  | sent enabled eq =>
    rw [eq]
    obtain ⟨hphase, -, hoff, -⟩ := sSendEnabled_bounds enabled
    obtain ⟨-, -, -, -, -, -, -, hlegal⟩ := hw
    have hmss := (senderConfigLegal_bounds (hlegal (by simp [hphase])).1).1
    have hpos : 0 < segLen s s.snd.nxt := lt_min (by omega) (by omega)
    have hnew : s.snd.una < s.snd.nxt + segLen s s.snd.nxt := by
      have : s.snd.una ≤ s.snd.nxt := hle
      omega
    refine ⟨hnew.le, fun e he => ?_, lo, hlo, segsFrom_append _ _ _ _ hsegs⟩
    rcases List.mem_append.1 he with he | he
    · exact hbehind e he
    · rw [List.mem_singleton.1 he]
      exact hnew
  | acked a above _ eq =>
    rw [eq]
    obtain ⟨lo', hlo', hsegs'⟩ := segsFrom_filter hsegs (hlo.trans above.le)
    exact ⟨le_max_right _ _, fun e he => by simpa using (List.mem_filter.1 he).2, lo', hlo', hsegs'⟩
  | rewound eq =>
    rw [eq]
    exact ⟨le_rfl, nofun, _, le_rfl, rfl⟩

end Queue

/-- Settles O55: by the moves of the sender's rules, with the segments of the queue leading from at most `s.una` to
`s.nxt` (`queueOk`). -/
theorem stepKeepsTheOutstandingTable : Obligations.StepKeepsTheOutstandingTable := by
  intro s t hw hq h
  rw [outqSafe_iff] at hq ⊢
  refine (step_keeps (P := fun s => windowSafe s ∧ queueOk (view s.snd)) ?_ ?_ ?_ ?_ ⟨hw, hq⟩ h).2
  · rintro u v ⟨hw, hq⟩ ⟨hsnd, -⟩ hc
    exact ⟨windowSafe_of_same hw hsnd hc, by rwa [hsnd]⟩
  · rintro u v ⟨hw, hq⟩ hr
    exact ⟨hr.move.keepsWindow hw hr.cfg, hr.move.keepsQueue hw hq⟩
  · rintro u w ⟨hw, hq⟩ hen
    exact ⟨windowSafe_cfgWrite hw hen, by rwa [cfgWrite_snd]⟩
  · exact fun u => ⟨windowSafe_of_zero rfl rfl rfl rfl rfl, le_rfl, nofun, _, le_rfl, rfl⟩

/-! ## The hold's two laws (R26, R159, R164) -/

/-- The laws of R26 and R164, the bound asked for where `p` holds. -/
def holdLaws (bound : Nat) (p : Prop) (x : Pld) : Prop :=
  (x.held = none → x.wait = 0) ∧ (p → 1 ≤ bound ∧ x.wait < bound)

theorem holdSafe_iff (s : State) :
    holdSafe s ↔ holdLaws s.cfg.reorderMaxDelay (s.snd.phase ≠ .idle) s.pld := .rfl

/-- No injector operation breaks a law, whatever the phase. -/
theorem HoldMove.keepsLaws {bound : Nat} {x y : Pld} {p : Prop} (h : HoldMove bound x y)
    (hx : holdLaws bound p x) : holdLaws bound p y := by
  obtain ⟨hnone, hbound⟩ := hx
  cases h with
  | same held wait =>
    rw [holdLaws, held, wait]
    exact ⟨hnone, hbound⟩
  | restarted wait =>
    rw [holdLaws, wait]
    exact ⟨fun _ => rfl, fun hp => ⟨(hbound hp).1, (hbound hp).1⟩⟩
  | longer held occupied below =>
    rw [holdLaws, held]
    exact ⟨fun hn => absurd hn occupied, fun hp => ⟨(hbound hp).1, below⟩⟩

section Hold

variable (s : State) (a : Nat)

@[simp] theorem rttArm_pld : (rttArm s).pld = s.pld := by
  unfold rttArm
  split <;> rfl

@[simp] theorem rttSample_pld (t : Timed) : (rttSample a t s).pld = s.pld := by
  unfold rttSample
  dsimp only
  split_ifs <;> rfl

@[simp] theorem rttCycle_pld : (rttCycle a s).pld = s.pld := by
  unfold rttCycle
  split_ifs <;> rfl

@[simp] theorem rttOnFwdAck_pld : (rttOnFwdAck a s).pld = s.pld := by
  unfold rttOnFwdAck
  split <;> simp

theorem holdMove_sSend : HoldMove s.cfg.reorderMaxDelay s.pld (sSend s).pld := by
  rw [sSend, rttArm_pld]
  exact holdMove_pldSubmit_of_same

theorem holdMove_sFastretx_of_same {u : State} (pld : u.pld = s.pld := by simp) (cfg : u.cfg = s.cfg := by simp) :
    HoldMove s.cfg.reorderMaxDelay s.pld (sFastretx a u).pld := by
  unfold sFastretx
  split_ifs
  · exact holdMove_pldSubmit_of_same (by simpa using pld) (by simpa using cfg)
  · exact .same (by rw [pld]) (by rw [pld])

theorem holdMove_sAckStale : HoldMove s.cfg.reorderMaxDelay s.pld (sAckStale a s).pld := by
  unfold sAckStale
  dsimp only
  split_ifs
  · exact holdMove_sFastretx_of_same s a
  · exact .same rfl rfl

/-- `S.OPEN` clears the hold before it submits the SYN (R184). -/
theorem holdMove_sOpen : HoldMove s.cfg.reorderMaxDelay { s.pld with held := none, wait := 0 } (sOpen s).pld :=
  holdMove_pldSubmit _ _ _ (sOpenRegs s) _

variable {s} {t : State}

/-- A rule of the sender but `S.OPEN` moves the hold as the injector does, and neither enters nor leaves `IDLE`. -/
theorem SndRule.hold (h : SndRule s t) :
    (senderConfigLegal s.cfg = true ∧ t = sOpen s) ∨
      (t.snd.phase = .idle ↔ s.snd.phase = .idle) ∧ HoldMove s.cfg.reorderMaxDelay s.pld t.pld := by
  cases h with
  | opened _ legal => exact .inl ⟨legal, rfl⟩
  | nothing | configError | timeout | finack => exact .inr ⟨.rfl, .same rfl rfl⟩
  | injected snd _ hold => exact .inr ⟨by rw [snd], hold⟩
  | synack p phase => exact .inr ⟨by simp [sRxSynack, phase], .same rfl rfl⟩
  | hsack phase => exact .inr ⟨by simp [phase], holdMove_pldSubmit_of_same⟩
  | send => exact .inr ⟨by simp, holdMove_sSend s⟩
  | ackFwd a => exact .inr ⟨by simp, .same (by simp [sAckFwd]) (by simp [sAckFwd])⟩
  | ackStale a => exact .inr ⟨by simp, holdMove_sAckStale s a⟩
  | fastretx a => exact .inr ⟨by simp, holdMove_sFastretx_of_same s a⟩
  | fin phase => exact .inr ⟨by simp [phase], holdMove_pldSubmit_of_same⟩
  | peerfin p phase => exact .inr ⟨by simp [phase], holdMove_pldSubmit_of_same⟩

end Hold

/-- Settles O57: by the rules of the sender, whose submissions keep the laws of the hold (`HoldMove.keepsLaws`) and of
which `S.OPEN` starts under a bound of at least 1. -/
theorem stepKeepsTheHoldLaws : Obligations.StepKeepsTheHoldLaws := by
  intro s t hs h
  refine step_keeps ?_ ?_ ?_ ?_ hs h
  · rintro u v hu ⟨hsnd, -, hheld, hwait, -⟩ hc
    rwa [holdSafe, hsnd, hheld, hwait, hc]
  · intro u v hu hr
    rw [holdSafe_iff, hr.cfg]
    obtain ⟨legal, rfl⟩ | ⟨hidle, hold⟩ := hr.hold
    · have hbound := (senderConfigLegal_bounds legal).2.1
      exact (holdMove_sOpen u).keepsLaws ⟨fun _ => rfl, fun _ => ⟨hbound, hbound⟩⟩
    · rw [Ne, hidle]
      exact hold.keepsLaws hu
  · intro u w hu hw
    have hpld : (cfgWrite w u).pld = u.pld := by cases w <;> rfl
    rw [holdSafe, cfgWrite_snd, hpld]
    refine ⟨hu.1, fun hp => ?_⟩
    obtain ⟨isn, wnd, he⟩ := cfgWrite_of_not_idle hp hw
    rw [he]
    exact hu.2 hp
  · exact fun u => ⟨fun _ => rfl, fun hp => absurd rfl hp⟩

/-! ## The clock, the error flags and the sink keep their history (R27, R64, R264, R275, R281) -/

section History

variable {s t : State}

/-- No rule of the sender clears its error flag (R264). -/
theorem SndMove.cfgErr (h : SndMove s t) (hs : s.snd.cfgErr = true) : t.snd.cfgErr = true := by
  cases h with
  | kept _ _ _ sticky eq => exact (congrArg SndView.cfgErr eq).trans (sticky hs)
  | opened _ eq | sent _ eq | acked _ _ _ eq | rewound eq => exact (congrArg SndView.cfgErr eq).trans hs

/-- Only a non-negative advance moves the clock (R275, R293). -/
theorem exec_now_le {i : Instr} (h : exec i s = .next t) : s.now ≤ t.now := by
  by_cases hclock : ∃ dt, i = .clockAdvance dt
  · obtain ⟨dt, rfl⟩ := hclock
    cases h
    split_ifs with hdt
    · exact le_add_of_nonneg_right hdt
    · exact le_rfl
  by_cases hreset : ownerOf i = .reset
  · cases ownerOf_eq_reset hreset
    cases h
    exact le_rfl
  have howner : ownerOf i ≠ .clock := by
    cases i with
    | clockAdvance dt => exact absurd ⟨dt, rfl⟩ hclock
    | syn d | synack d | ack d | data d | fin d => cases d <;> nofun
    | _ => nofun
  obtain ⟨-, -, -, -, hnow, -⟩ := ownerLaw_exec h hreset
  exact (hnow howner).ge

/-- What a rule of the receiver does to its error flag and to `SINK`: the flag stays, and the sink grows while it is
open, or is emptied by a new connection. -/
def sinkLaw (s t : State) : Prop :=
  (s.rcv.cfgErr = true → t.rcv.cfgErr = true) ∧
    ((s.sink <+: t.sink ∧ (s.rcv.sinkOpen = false → t.sink = s.sink)) ∨
      (t.sink = [] ∧ s.rcv.phase = .listen ∧ t.rcv.phase = .synRcvd))

theorem sinkLaw_of_same (hsink : t.sink = s.sink := by simp) (herr : t.rcv.cfgErr = s.rcv.cfgErr := by simp) :
    sinkLaw s t := by
  rw [sinkLaw, hsink, herr]
  exact ⟨id, .inl ⟨List.prefix_rfl, fun _ => rfl⟩⟩

/-- An operation behind a guard has only its enabled case to answer for (entry 4). -/
theorem sinkLaw_ite {g : Prop} [Decidable g] (ht : g → sinkLaw s t) : sinkLaw s (if g then t else s) := by
  split_ifs with hg
  · exact ht hg
  · exact sinkLaw_of_same

@[simp] theorem rXmit_sink (f : Bytes) (s : State) : (rXmit f s).sink = s.sink := by simp [rXmit]

@[simp] theorem setRcvPhase_sink (ph : RcvPhase) (s : State) : (setRcvPhase ph s).sink = s.sink := rfl

@[simp] theorem setRcvPhase_cfgErr (ph : RcvPhase) (s : State) : (setRcvPhase ph s).rcv.cfgErr = s.rcv.cfgErr := rfl

@[simp] theorem rRxCorrupt_sink (b : Bytes) (c : Cause) (s : State) : (rRxCorrupt b c s).sink = s.sink := by
  unfold rRxCorrupt takeAnomaly
  dsimp only
  split_ifs <;> simp

theorem sinkLaw_rRxSyn (p : Packet) (hp : s.rcv.phase = .listen) : sinkLaw s (rRxSyn p s) := by
  unfold rRxSyn
  split_ifs
  · exact ⟨id, .inr ⟨rfl, hp, rfl⟩⟩
  · exact ⟨fun _ => rfl, .inl ⟨List.prefix_rfl, fun _ => rfl⟩⟩

theorem sinkLaw_rSynack : sinkLaw s (rSynack s) := sinkLaw_of_same (by simp [rSynack]) (by simp [rSynack])

/-- The payload is appended while the sink is open, and a closed sink is frozen (R64, R281; entry 18). -/
theorem sinkAppend_prefix (b : Bytes) (s : State) : s.sink <+: (sinkAppend b s).sink ∧
    (s.rcv.sinkOpen = false → (sinkAppend b s).sink = s.sink) := by
  unfold sinkAppend
  split_ifs with ho
  · exact ⟨List.prefix_append _ _, fun hc => by simp [hc] at ho⟩
  · exact ⟨List.prefix_rfl, fun _ => rfl⟩

theorem sinkLaw_rDataInorder (p : Packet) : sinkLaw s (rDataInorder p s) := by
  have hsink : (rDataInorder p s).sink = (sinkAppend p.payload s).sink := by simp [rDataInorder]
  refine ⟨by simp [rDataInorder], .inl ?_⟩
  rw [hsink]
  exact sinkAppend_prefix p.payload s

theorem sinkLaw_rDataOoo (p : Packet) : sinkLaw s (rDataOoo p s) :=
  sinkLaw_of_same (by simp [rDataOoo]) (by simp [rDataOoo])

/-- Counting and observing a segment touches neither the sink nor its flags (R236). -/
theorem sinkLaw_rRxData (p : Packet) : sinkLaw s (rRxData p s) := by
  have hcounted : ∀ u, sinkLaw (rObserve p.seq.toNat s) u → sinkLaw s u := fun _ h => h
  unfold rRxData
  dsimp only
  split_ifs
  · exact hcounted _ (sinkLaw_rDataInorder p)
  · exact hcounted _ (sinkLaw_rDataOoo p)

theorem sinkLaw_rRxFin (p : Packet) : sinkLaw s (rRxFin p s) := sinkLaw_of_same rfl rfl

theorem sinkLaw_rClose : sinkLaw s (rClose s) := sinkLaw_of_same (by simp [rClose]) (by simp [rClose])

theorem sinkLaw_rDispatch (p : Packet) : sinkLaw s (rDispatch p s) := by
  unfold rDispatch
  split
  next hp _ => exact sinkLaw_rRxSyn p hp
  next => exact sinkLaw_of_same rfl rfl
  next => exact sinkLaw_rRxData p
  next => exact sinkLaw_rRxFin p
  next => exact sinkLaw_of_same rfl rfl
  next => exact sinkLaw_of_same rfl rfl

theorem sinkLaw_rReceive (b : Bytes) : sinkLaw s (rReceive b s) := by
  obtain ⟨c, -, hc⟩ | ⟨p, -, hp⟩ := rReceive_cases s b
  · rw [hc]
    exact sinkLaw_of_same
  · rw [hp]
    exact sinkLaw_rDispatch (s := logRcv (packetRec s.now p) s) p

theorem sinkLaw_rRx (pick : Nat) : sinkLaw s (rRx pick s) := by
  obtain he | ⟨b, -, -, he⟩ := rRx_cases s pick <;> rw [he]
  · exact sinkLaw_of_same
  · exact sinkLaw_rReceive (s := s.withChanSR (s.chanSR.eraseIdx (pollIndex pick))) b

/-- Every operation of the receiver. -/
theorem sinkLaw_exec_rcv {i : Instr} (h : exec i s = .next t) (hi : ownerOf i = .rcv) : sinkLaw s t := by
  cases i with
  | syn d w | synack d w | ack d w | data d w | fin d w =>
    cases d <;> cases hi
    cases h
    exact sinkLaw_ite fun _ => sinkLaw_rReceive _
  | rRx pick => cases h; exact sinkLaw_rRx pick
  | rRxCorrupt => cases h; exact sinkLaw_of_same
  | rRxDiscard => cases h; exact sinkLaw_of_same rfl rfl
  | rRxSyn p => cases h; exact sinkLaw_ite fun g => sinkLaw_rRxSyn p g.1
  | rSynack => cases h; exact sinkLaw_ite fun _ => sinkLaw_rSynack
  | rRxHsack | rRxLastack => cases h; exact sinkLaw_ite fun _ => sinkLaw_of_same rfl rfl
  | rRxData p => cases h; exact sinkLaw_ite fun _ => sinkLaw_rRxData p
  | rDataInorder p => cases h; exact sinkLaw_ite fun _ => sinkLaw_rDataInorder p
  | rDataOoo p => cases h; exact sinkLaw_ite fun _ => sinkLaw_rDataOoo p
  | rRxFin p => cases h; exact sinkLaw_ite fun _ => sinkLaw_rRxFin p
  | rClose => cases h; exact sinkLaw_ite fun _ => sinkLaw_rClose
  | _ => cases hi

/-- Every operation but reset: the receiver's own rules keep the law, and no other touches what it speaks of (R42). -/
theorem sinkLaw_exec {i : Instr} (h : exec i s = .next t) (hi : ownerOf i ≠ .reset) : sinkLaw s t := by
  by_cases hrcv : ownerOf i = .rcv
  · exact sinkLaw_exec_rcv h hrcv
  · obtain ⟨-, hsame, -⟩ := ownerLaw_exec h hi
    obtain ⟨hregs, -, hsink, -⟩ := hsame hrcv
    exact sinkLaw_of_same hsink (by rw [hregs])

/-- Every operation but reset keeps the sender's error flag. -/
theorem exec_cfgErr {i : Instr} (h : exec i s = .next t) (hi : ownerOf i ≠ .reset) (hs : s.snd.cfgErr = true) :
    t.snd.cfgErr = true := by
  by_cases hsnd : ownerOf i = .snd
  · obtain ⟨c, l, hr⟩ := sndRule_exec s h hsnd
    exact hr.move.cfgErr hs
  · obtain ⟨hsame, -⟩ := ownerLaw_exec h hi
    rw [(hsame hsnd).1]
    exact hs

end History

/-! ### An ended run stays ended (R199, R311, R322) -/

section Ended

variable {s t : State}

/-- The states differ at most in registers that R322 does not read: the configuration, the clock and `chan.RS`. -/
def unreadMove (s t : State) : Prop := ∃ c n l, t = ((s.withCfg c).withNow n).withChanRS l

theorem unreadMove_of_eq (h : t = s) : unreadMove s t := ⟨s.cfg, s.now, s.chanRS, h⟩

theorem unreadMove_ite {g : Prop} [Decidable g] (ht : g → unreadMove s t) :
    unreadMove s (if g then t else s) := by
  split_ifs with hg
  · exact ht hg
  · exact unreadMove_of_eq rfl

theorem observe_of_unreadMove (h : unreadMove s t) (hs : runEnded s = true) :
    runEnded t = true ∧ observe t = observe s := by
  obtain ⟨c, n, l, rfl⟩ := h
  exact ⟨hs, rfl⟩

theorem unreadMove_chanLose (d : Dir) (n : Nat) (hdrained : s.chanSR = []) : unreadMove s (chanLose d n s) := by
  unfold chanLose
  split
  · exact unreadMove_of_eq rfl
  · cases d with
    | sr =>
      have hnone : s.chanSR.eraseIdx n = s.chanSR := by simp [hdrained]
      exact unreadMove_of_eq (congrArg s.withChanSR hnone)
    | rs => exact ⟨s.cfg, s.now, _, rfl⟩

/-- In an ended run both engines wait with nothing to poll or to send, so a step of R14 but reset changes at most the
receiver's configuration, the clock or `chan.RS`. -/
theorem unreadMove_exec {i : Instr} (hs : runEnded s = true) (h : exec i s = .next t) (hstep : isStep i = true)
    (hi : i ≠ .cmdReset) : unreadMove s t := by
  obtain ⟨hclosed, hpending, hlisten, -, hdrained⟩ := (runEnded_iff s).1 hs
  cases i with
  | dlyFire m => cases h; exact unreadMove_of_eq (if_neg (by simp [hpending]))
  | sOpen | sHsack | cmdStart => cases h; exact unreadMove_of_eq (if_neg (by simp [hclosed]))
  | sSend => cases h; exact unreadMove_of_eq (if_neg (by simp [sSendEnabled, hclosed]))
  | sTimeout => cases h; exact unreadMove_of_eq (if_neg (by simp [sTimeoutEnabled, hclosed]))
  | sFin => cases h; exact unreadMove_of_eq (if_neg (by simp [sFinEnabled, hclosed]))
  | rSynack | rClose => cases h; exact unreadMove_of_eq (if_neg (by simp [hlisten]))
  | sRx pick =>
    cases h
    obtain he | ⟨b, hpolls, -⟩ := sRx_cases s pick
    · exact unreadMove_of_eq he
    · simp [hclosed, sndPolls] at hpolls
  | rRx pick =>
    cases h
    obtain he | ⟨b, -, hb, -⟩ := rRx_cases s pick
    · exact unreadMove_of_eq he
    · simp [hdrained] at hb
  | cmdCfgwr w =>
    cases h
    refine unreadMove_ite fun hw => ?_
    obtain ⟨isn, wnd, he⟩ := cfgWrite_of_not_idle (by simp [hclosed]) hw
    exact ⟨{ s.cfg with isnR := isn, rcvWnd := wnd }, s.now, s.chanRS, he⟩
  | clockAdvance dt => cases h; exact unreadMove_ite fun _ => ⟨s.cfg, s.now + dt, s.chanRS, rfl⟩
  | chanLose d n => cases h; exact unreadMove_chanLose d n hdrained
  | cmdReset => exact absurd rfl hi
  | _ => cases hstep

end Ended

/-- Settles O52: reset apart, the clock, the two flags and the sink are each followed through the operations of their
owner, and an ended run leaves no step enabled that R322 would see. -/
theorem clockErrorsAndSinkKeepTheirHistory : Obligations.ClockErrorsAndSinkKeepTheirHistory := by
  intro i s t h
  refine ⟨exec_now_le h, fun hi => ?_, ?_, fun hclosed hlisten hsink hdrained hpending hstep hi => ?_⟩
  · have howner := mt ownerOf_eq_reset hi
    exact ⟨exec_cfgErr h howner, (sinkLaw_exec h howner).1⟩
  · by_cases hi : i = .cmdReset
    · subst hi
      cases h
      exact .inr ⟨rfl, .inl rfl⟩
    · exact (sinkLaw_exec h (mt ownerOf_eq_reset hi)).2.imp_right fun ⟨hempty, hphases⟩ => ⟨hempty, .inr hphases⟩
  · have hs := (runEnded_iff s).2 ⟨hclosed, hpending, hlisten, hsink, hdrained⟩
    exact ⟨hs, observe_of_unreadMove (unreadMove_exec hs h hstep hi) hs⟩

/-! ## Reset (R44, R300) -/

/-- Settles O46: each register of `cmdReset` is one of `State.reset`, but for the clock, the environment's choices, the
bytes stored for `SRC` and `PAYLOAD_MAX`, which it takes from the state. -/
theorem resetRestoresEveryRegister : Obligations.ResetRestoresEveryRegister := fun s =>
  ⟨cmdReset s, rfl, rfl, rfl, rfl, rfl, rfl, rfl, rfl, rfl, rfl, rfl, rfl, rfl, rfl, rfl, rfl, rfl, rfl⟩

theorem timeSafe_reset : timeSafe State.reset :=
  ⟨le_rfl, le_max_left _ _, le_max_left _ _, nofun, nofun⟩

/-- Nothing is on its way after reset, and `SINK` is the source up to its start (R245). -/
theorem deliverySafe_reset : deliverySafe State.reset :=
  ⟨nofun, nofun, nofun, fun _ => ⟨rfl, rfl, rfl, rfl, rfl⟩, fun h => absurd rfl h, rfl⟩

/-- Settles O53: reset is in `IDLE` with every pointer 0 and every table empty. -/
theorem resetMeetsTheInvariants : Obligations.ResetMeetsTheInvariants :=
  ⟨windowSafe_of_zero rfl rfl rfl rfl rfl, (outqSafe_iff _).2 ⟨le_rfl, nofun, 0, le_rfl, rfl⟩, timeSafe_reset,
    ⟨fun _ => rfl, fun h => absurd rfl h⟩, ⟨rfl, rfl, rfl⟩,
    (registersSafe_iff _).2 ⟨sndRegsSafe_reset, rcvRegsSafe_reset, rfl⟩, deliverySafe_reset⟩

end Sys2Proof.Proofs.StateFamily

namespace Sys2Proof.Proofs.Guards

open Sys2Proof Sys2Proof.Machine Sys2Proof.Proofs.StateFamily

/-! ## An operation whose guard does not hold is no step (R68, R180, R230, R289; entry 4)

The conditions of R180's and R230's rules are gathered in one predicate over the operation and the state; `exec` is
tied to it once, and each clause of the statement is then a fact about a guard alone. -/

/-- The guard of a guarded operation; a poll's guard is that its engine polls and the channel has the datagram it would
return (R68). An operation without a guard is always enabled. -/
def enabled (i : Instr) (s : State) : Prop :=
  match i with
  | .pldHold _ _ _ => s.pld.held = none
  | .dlyFire m => m ∈ s.pld.pending ∧ m.due ≤ s.now
  | .sOpen => s.snd.phase = .idle ∧ senderConfigLegal s.cfg = true
  | .sRx pick => sndPolls s.snd.phase = true ∧ pollIndex pick < s.chanRS.length
  | .sRxSynack p => s.snd.phase = .synSent ∧ classify p = .synack
  | .sHsack => s.snd.phase = .established
  | .sSend => sSendEnabled s = true
  | .sRxAck p => s.snd.phase = .dataTransfer ∧ classify p = .ack
  | .sAckFwd a => s.snd.una < a ∧ a ≤ s.snd.max
  | .sAckStale a => a ≤ s.snd.una
  | .sTimeout => sTimeoutEnabled s = true
  | .sFin => sFinEnabled s = true
  | .sRxFinack p => s.snd.phase = .finWait ∧ classify p = .ack ∧ finAckMatches p s = true
  | .sRxPeerfin p => s.snd.phase = .finWait ∧ classify p = .fin ∧ s.snd.finAcked = true
  | .rRx pick => rcvPolls s.rcv.phase = true ∧ pollIndex pick < s.chanSR.length
  | .rRxSyn p => s.rcv.phase = .listen ∧ classify p = .syn
  | .rSynack => s.rcv.phase = .synRcvd
  | .rRxHsack p => s.rcv.phase = .awaitAck ∧ classify p = .ack
  | .rRxData p => s.rcv.phase = .established ∧ classify p = .data
  | .rDataInorder p => p.seq.toNat = s.rcv.rcvNxt
  | .rDataOoo p => p.seq.toNat ≠ s.rcv.rcvNxt
  | .rRxFin p => s.rcv.phase = .established ∧ classify p = .fin
  | .rClose => s.rcv.phase = .finRcvd
  | .rRxLastack p => s.rcv.phase = .lastAck ∧ classify p = .ack
  | .clockAdvance dt => 0 ≤ dt
  | _ => True

/-! ### The guards that the model computes -/

theorem sTimeoutEnabled_iff (s : State) : sTimeoutEnabled s = true ↔
    s.snd.phase = .dataTransfer ∧ ∃ h q, s.snd.outq = h :: q ∧ h.tSent + rto s ≤ s.now := by
  unfold sTimeoutEnabled
  cases s.snd.outq <;> simp

theorem sFinEnabled_iff (s : State) : sFinEnabled s = true ↔
    s.snd.phase = .dataTransfer ∧ s.snd.una = endSeq s := by
  simp [sFinEnabled]

theorem finAckMatches_iff (p : Packet) (s : State) : finAckMatches p s = true ↔
    s.snd.finAcked = false ∧ p.ackNum.toNat = endSeq s + 1 := by
  simp [finAckMatches]

/-- On an unordered channel a poll returns the datagram its operand picks (entry 12). -/
theorem pollIndex_of_unorderedLossy (hchannel : Config.channel = .unorderedLossy) (pick : Nat) :
    pollIndex pick = pick := by
  cases pick with
  | zero => rfl
  | succ n => simp [pollIndex, hchannel]

section Disabled

variable {i : Instr} {s : State}

/-- A poll that its engine may not make, or that finds no datagram, returns none (R68). -/
theorem sRx_of_not_enabled {pick : Nat} (h : ¬ enabled (.sRx pick) s) : sRx pick s = s := by
  obtain he | ⟨b, hpolls, hb, -⟩ := sRx_cases s pick
  · exact he
  · exact absurd ⟨hpolls, (List.getElem?_eq_some_iff.1 hb).1⟩ h

/-- The receiver's poll likewise (R68). -/
theorem rRx_of_not_enabled {pick : Nat} (h : ¬ enabled (.rRx pick) s) : rRx pick s = s := by
  obtain he | ⟨b, hpolls, hb, -⟩ := rRx_cases s pick
  · exact he
  · exact absurd ⟨hpolls, (List.getElem?_eq_some_iff.1 hb).1⟩ h

/-- Entry 4: an operation issued where its guard does not hold completes with the state unchanged. -/
theorem exec_of_not_enabled (h : ¬ enabled i s) : exec i s = .next s := by
  cases i with
  | pldHold | dlyFire | sOpen | sRxSynack | sHsack | sSend | sRxAck | sAckFwd | sAckStale | sTimeout | sFin
  | sRxFinack | sRxPeerfin | rRxSyn | rSynack | rRxHsack | rRxData | rDataInorder | rDataOoo | rRxFin | rClose
  | rRxLastack | clockAdvance => exact congrArg Host.Outcome.next (if_neg h)
  | sRx => exact congrArg Host.Outcome.next (sRx_of_not_enabled h)
  | rRx => exact congrArg Host.Outcome.next (rRx_of_not_enabled h)
  | _ => exact absurd trivial h

end Disabled

/-! ### What the failing conditions rule out -/

section Conditions

variable {s : State}

/-- Each of the four conditions of R189's guard, negated, disables `S.SEND`. -/
theorem not_enabled_sSend (h : s.snd.phase ≠ .dataTransfer ∨ s.snd.nxt < s.snd.base ∨
    s.snd.base + s.cfg.srcLen ≤ s.snd.nxt ∨ s.cfg.window < (s.snd.nxt - s.snd.una) +
      min s.cfg.mss (s.cfg.srcLen - (s.snd.nxt - s.snd.base))) : ¬ enabled .sSend s := by
  intro he
  obtain ⟨hphase, hpos, hoff, hfit⟩ := sSendEnabled_bounds he
  simp only [off, segLen] at hoff hfit
  obtain h | h | h | h := h
  · exact h hphase
  · omega
  · omega
  · omega

/-- Without an outstanding segment there is no deadline (R194). -/
theorem not_enabled_sTimeout (h : s.snd.phase ≠ .dataTransfer ∨ s.snd.outq = []) : ¬ enabled .sTimeout s := by
  intro he
  obtain ⟨hphase, e, q, houtq, -⟩ := (sTimeoutEnabled_iff s).1 he
  simp [hphase, houtq] at h

/-- Before the oldest segment's deadline (R194). -/
theorem not_enabled_sTimeout_of_lt {e : OutSeg} {q : List OutSeg} (houtq : s.snd.outq = e :: q)
    (hearly : s.now < e.tSent + rto s) : ¬ enabled .sTimeout s := by
  intro he
  obtain ⟨-, e', q', houtq', hdue⟩ := (sTimeoutEnabled_iff s).1 he
  obtain ⟨rfl, rfl⟩ := List.cons.inj (houtq.symm.trans houtq')
  exact not_le.2 hearly hdue

theorem not_enabled_sFin (h : s.snd.phase ≠ .dataTransfer ∨ s.snd.una ≠ s.snd.base + s.cfg.srcLen) :
    ¬ enabled .sFin s := fun he => not_and_or.2 h ((sFinEnabled_iff s).1 he)

theorem not_enabled_sRxFinack {p : Packet} (h : s.snd.phase ≠ .finWait ∨ s.snd.finAcked = true ∨
    classify p ≠ .ack ∨ p.ackNum.toNat ≠ s.snd.base + s.cfg.srcLen + 1) : ¬ enabled (.sRxFinack p) s := by
  rintro ⟨hphase, hack, hmatch⟩
  obtain ⟨hunacked, hnum⟩ := (finAckMatches_iff p s).1 hmatch
  simp [hphase, hunacked, hack, hnum, endSeq] at h

theorem not_enabled_sRxPeerfin {p : Packet} (h : s.snd.phase ≠ .finWait ∨ s.snd.finAcked = false ∨
    classify p ≠ .fin) : ¬ enabled (.sRxPeerfin p) s := by
  rintro ⟨hphase, hfin, hacked⟩
  simp [hphase, hacked, hfin] at h

theorem not_enabled_sRx {pick : Nat} (h : s.chanRS.length ≤ pollIndex pick) : ¬ enabled (.sRx pick) s :=
  fun he => not_lt.2 h he.2

theorem not_enabled_rRx {pick : Nat} (h : s.chanSR.length ≤ pollIndex pick) : ¬ enabled (.rRx pick) s :=
  fun he => not_lt.2 h he.2

end Conditions

/-- Settles O49: every clause states that a condition of an operation's guard fails, so the operation is not enabled. -/
theorem disabledOperationsChangeNothing : Obligations.DisabledOperationsChangeNothing := by
  intro s p f dest retx m a dt
  exact ⟨
    -- `PLD.HOLD` and `DLY.FIRE`
    fun h => exec_of_not_enabled h,
    fun h => exec_of_not_enabled (not_and_or.2 (h.imp_right not_le.2)),
    -- the sender's rules, from `S.OPEN` to `S.RX_PEERFIN`
    fun h => exec_of_not_enabled (not_and_or.2 (h.imp_right ne_true_of_eq_false)),
    fun h => exec_of_not_enabled (not_and_or.2 h),
    fun h => exec_of_not_enabled h,
    fun h => exec_of_not_enabled (not_enabled_sSend h),
    fun h => exec_of_not_enabled (not_and_or.2 h),
    fun h => exec_of_not_enabled (not_and_or.2 (h.imp not_lt.2 not_le.2)),
    fun h => exec_of_not_enabled (not_le.2 h),
    fun h => exec_of_not_enabled (not_enabled_sTimeout h),
    fun _ _ houtq hearly => exec_of_not_enabled (not_enabled_sTimeout_of_lt houtq hearly),
    fun h => exec_of_not_enabled (not_enabled_sFin h),
    fun h => exec_of_not_enabled (not_enabled_sRxFinack h),
    fun h => exec_of_not_enabled (not_enabled_sRxPeerfin h),
    -- the receiver's rules, from `R.RX_SYN` to `R.RX_LASTACK`
    fun h => exec_of_not_enabled (not_and_or.2 h),
    fun h => exec_of_not_enabled h,
    fun h => exec_of_not_enabled (not_and_or.2 h),
    fun h => exec_of_not_enabled (not_and_or.2 h),
    fun h => exec_of_not_enabled h,
    fun h => exec_of_not_enabled (not_not.2 h),
    fun h => exec_of_not_enabled (not_and_or.2 h),
    fun h => exec_of_not_enabled h,
    fun h => exec_of_not_enabled (not_and_or.2 h),
    -- `CLOCK.ADVANCE`, then the polls: of an empty channel, and of an index with no datagram
    fun h => exec_of_not_enabled (not_le.2 h),
    fun h => exec_of_not_enabled (not_enabled_sRx (by simp [h])),
    fun h => exec_of_not_enabled (not_enabled_rRx (by simp [h])),
    fun hchannel => ⟨
      fun h => exec_of_not_enabled (not_enabled_sRx ((pollIndex_of_unorderedLossy hchannel a).symm ▸ h)),
      fun h => exec_of_not_enabled (not_enabled_rRx ((pollIndex_of_unorderedLossy hchannel a).symm ▸ h))⟩⟩

end Sys2Proof.Proofs.Guards

namespace Sys2Proof.Proofs.Encoding

open Sys2Proof Sys2Proof.Machine Sys2Proof.Proofs.Scope Sys2Proof.Proofs.Guards

/-! ## Slots and their operations (R91, R98, R100, R104)

A datagram of admitted length decodes by its type alone, and the cut at the header's offsets loses no byte. Both
directions of "decode and encode agree" follow. -/

/-- The frame row of a type (R98): a reserved flag combination has none. -/
def frameRow (d : Dir) (w : WireFrame) (ty : FrameType) : Except DecodeError Instr :=
  match ty with
  | .syn => .ok (.syn d w)
  | .synack => .ok (.synack d w)
  | .ack => .ok (.ack d w)
  | .data => .ok (.data d w)
  | .fin => .ok (.fin d w)
  | .rsv => .error .reservedFlags

theorem frameRow_ne_ok {d : Dir} {w : WireFrame} {ty : FrameType} (h : ∀ i, frameRow d w ty ≠ .ok i) : ty = .rsv := by
  cases ty with
  | rsv => rfl
  | _ => exact absurd rfl (h _)

/-- Every frame row has the slot of its frame's bytes. -/
theorem encode_of_frameRow {d : Dir} {w : WireFrame} {ty : FrameType} {i : Instr} (h : frameRow d w ty = .ok i) :
    encode i = .frame d (wireBytes w) := by
  cases ty <;> cases h <;> rfl

section Datagrams

variable {pm : Nat} {d : Dir} {b : Bytes}

theorem decode_frame_of_short (h : b.length < 32) : decode pm (.frame d b) = .error .shortFrame := if_pos h

theorem decode_frame_of_long (h : 32 + pm < b.length) : decode pm (.frame d b) = .error .longFrame :=
  (if_neg (Nat.not_lt.2 (by omega : 32 ≤ b.length))).trans (if_pos h)

/-- Within the length bounds a datagram's flag bytes select its row (R98). -/
theorem decode_frame_of_length (hlow : 32 ≤ b.length) (hhigh : b.length ≤ 32 + pm) :
    decode pm (.frame d b) = frameRow d (wireAt b) (frameType b) := by
  simp only [decode, decodeDatagram]
  rw [if_neg (Nat.not_lt.2 hlow), if_neg (Nat.not_lt.2 hhigh)]
  cases frameType b <;> rfl

/-- A datagram decodes to an operation only within the length bounds, and then to the row of its type. -/
theorem decode_frame_eq_ok {i : Instr} (h : decode pm (.frame d b) = .ok i) :
    32 ≤ b.length ∧ b.length ≤ 32 + pm ∧ frameRow d (wireAt b) (frameType b) = .ok i := by
  have hlow : 32 ≤ b.length := by
    by_contra hn
    cases (decode_frame_of_short (not_le.1 hn)).symm.trans h
  have hhigh : b.length ≤ 32 + pm := by
    by_contra hn
    cases (decode_frame_of_long (not_le.1 hn)).symm.trans h
  exact ⟨hlow, hhigh, (decode_frame_of_length hlow hhigh).symm.trans h⟩

/-- A cut frame with admitted operands decodes to the row of its type. -/
theorem decode_wireBytes {ty : FrameType} {w : WireFrame} (h : wireOk pm ty w = true) :
    decode pm (.frame d (wireBytes w)) = frameRow d w ty := by
  simp only [wireOk, Bool.and_eq_true, beq_iff_eq, decide_eq_true_eq] at h
  obtain ⟨hty, hlen⟩ := h
  rw [decode_frame_of_length (by rw [wireBytes_length]; omega) (by rw [wireBytes_length]; omega), wireAt_wireBytes,
    frameType_wireBytes, hty]

/-- The four bytes at an offset of a long enough string, put before what follows them. -/
theorem quadBytes_quadAt_append (o : Nat) (h : o + 4 ≤ b.length) :
    quadBytes (quadAt b o) ++ b.drop (o + 4) = b.drop o := by
  have hbyte : ∀ k < b.length, b.drop k = byteAt b k :: b.drop (k + 1) := fun k hk => by
    rw [List.drop_eq_getElem_cons hk, byteAt, List.getD_eq_getElem _ _ hk]
  rw [hbyte o (by omega), hbyte (o + 1) (by omega), hbyte (o + 2) (by omega), hbyte (o + 3) (by omega)]
  rfl

/-- The cut at the offsets of R62 loses no byte. -/
theorem wireBytes_wireAt (h : 32 ≤ b.length) : wireBytes (wireAt b) = b := by
  have hflags : [byteAt b 20, byteAt b 21, byteAt b 22, byteAt b 23] = quadBytes (quadAt b 20) := rfl
  simp only [wireBytes, wireAt, be32_beInt4, be64Hi_beInt8, be64Lo_beInt8, hflags, List.append_assoc]
  rw [quadBytes_quadAt_append 28 h, quadBytes_quadAt_append 24 (by omega), quadBytes_quadAt_append 20 (by omega),
    quadBytes_quadAt_append 16 (by omega), quadBytes_quadAt_append 12 (by omega), quadBytes_quadAt_append 8 (by omega),
    quadBytes_quadAt_append 4 (by omega), quadBytes_quadAt_append 0 (by omega), List.drop_zero]

/-- A frame operation read from a datagram encodes to exactly the datagram's bytes. -/
theorem encode_of_decode_frame {i : Instr} (h : decode pm (.frame d b) = .ok i) : encode i = .frame d b := by
  obtain ⟨hlow, -, hrow⟩ := decode_frame_eq_ok h
  rw [encode_of_frameRow hrow, wireBytes_wireAt hlow]

/-- The reserved rows of R98 by their flag bytes: `FIN` together with another flag. -/
theorem frameType_eq_rsv_iff : frameType b = .rsv ↔ byteAt b 22 ≠ 0#8 ∧ (byteAt b 20 ≠ 0#8 ∨ byteAt b 21 ≠ 0#8) := by
  have hflag : ∀ x : Byte, x ≠ 0#8 ↔ flagOfByte x = true := by simp [flagOfByte]
  rw [hflag, hflag, hflag, frameType]
  generalize flagOfByte (byteAt b 20) = syn, flagOfByte (byteAt b 21) = ack, flagOfByte (byteAt b 22) = fin
  revert syn ack fin
  decide

end Datagrams

/-- Settles O8: the five frame rows by the cut that loses nothing, the others by the code that names them. -/
theorem everyOperationIsReadBack : Obligations.EveryOperationIsReadBack := by
  intro pm i hwf
  cases i with
  | syn | synack | ack | data | fin => exact decode_wireBytes hwf
  | _ => rfl

/-- Settles O9: by the length first, then by the row that the flag bytes select. -/
theorem datagramsDecodeExactly : Obligations.DatagramsDecodeExactly := by
  refine fun pm d b => ⟨fun i hi => ?_, decode_frame_of_short, decode_frame_of_long, fun hlow hhigh hnone => ?_⟩
  · obtain ⟨hlow, hhigh, -⟩ := decode_frame_eq_ok hi
    exact ⟨encode_of_decode_frame hi, decode_wf pm _ i hi, hlow, hhigh⟩
  · rw [decode_frame_of_length hlow hhigh] at hnone
    exact frameType_eq_rsv_iff.1 (frameRow_ne_ok hnone)

/-- Settles O10: the words of R104 and R99 evaluated, the two frames with the cut of their header as witness. -/
theorem writtenOutSlotsDecode : Obligations.WrittenOutSlotsDecode :=
  ⟨rfl, rfl, rfl, rfl, rfl, rfl, ⟨wireAt (flagsHeader 0x010100), rfl, rfl, rfl, rfl⟩,
    ⟨wireAt (flagsHeader 0x000001), rfl, rfl, rfl, rfl⟩⟩

/-! ## A datagram handed to its engine (R185, R231; entry 7)

The dispatch tables are written once as functions from phase and type to a rule, and `exec` of that rule is what the
engine's dispatch does. A row's extra condition is the guard of its rule, so the tables need not repeat it. -/

/-- An operation whose slot is a frame hands the frame's bytes to the engine at the direction's end. -/
theorem exec_of_encode_frame {i : Instr} {d : Dir} {b : Bytes} (s : State) (h : encode i = .frame d b) :
    exec i s = .next (pollDatagram d b s) := by
  cases i <;> cases h <;> rfl

theorem decodeFrame_of_short {pm : Nat} {b : Bytes} (h : b.length < 32) : decodeFrame pm b = .error .short := if_pos h

theorem decodeFrame_of_long {pm : Nat} {b : Bytes} (h : 32 + pm < b.length) : decodeFrame pm b = .error .long :=
  (if_neg (Nat.not_lt.2 (by omega : 32 ≤ b.length))).trans (if_pos h)

/-- The decoded packet has the type that the datagram's flag bytes select (R94, R98). -/
theorem classify_of_decodeFrame {pm : Nat} {b : Bytes} {p : Packet} (h : decodeFrame pm b = .ok p) :
    classify p = frameType b := by
  obtain ⟨rfl, -, -⟩ := decodeFrame_ok b p pm h
  exact classify_packetAt b

/-- The record of a polled packet of a known type (R284). -/
theorem packetRec_of_classify {p : Packet} {ty : FrameType} (t : Time) (h : classify p = ty) :
    packetRec t p = ⟨.rcv, t, some ty, some p.seq.toNat, p.payload.length, some p.ackNum.toNat⟩ := by
  rw [packetRec, h]

theorem rcvPolls_iff (ph : RcvPhase) :
    rcvPolls ph = true ↔ ph = .listen ∨ ph = .awaitAck ∨ ph = .established ∨ ph = .lastAck := by
  cases ph <;> decide

theorem sndPolls_iff (ph : SndPhase) : sndPolls ph = true ↔ ph = .synSent ∨ ph = .dataTransfer ∨ ph = .finWait := by
  cases ph <;> decide

/-- The table of R231: the rule for a packet of a type in a phase. -/
def rRule (ph : RcvPhase) (ty : FrameType) (p : Packet) : Instr :=
  match ph, ty with
  | .listen, .syn => .rRxSyn p
  | .awaitAck, .ack => .rRxHsack p
  | .established, .data => .rRxData p
  | .established, .fin => .rRxFin p
  | .lastAck, .ack => .rRxLastack p
  | _, _ => .rRxDiscard p

/-- The table of R185: the rule for a packet of a type in a phase, which acts only where its own guard holds. -/
def sRule (ph : SndPhase) (ty : FrameType) (p : Packet) : Instr :=
  match ph, ty with
  | .synSent, .synack => .sRxSynack p
  | .dataTransfer, .ack => .sRxAck p
  | .finWait, .ack => .sRxFinack p
  | .finWait, .fin => .sRxPeerfin p
  | _, _ => .sRxDiscard p

theorem rRule_rsv (ph : RcvPhase) (p : Packet) : rRule ph .rsv p = .rRxDiscard p := by cases ph <;> rfl

theorem sRule_rsv (ph : SndPhase) (p : Packet) : sRule ph .rsv p = .sRxDiscard p := by cases ph <;> rfl

/-- The receiver's dispatch runs the rule of the table, whose guard is the row it stands in. -/
theorem exec_rRule (p : Packet) (s : State) : exec (rRule s.rcv.phase (classify p) p) s = .next (rDispatch p s) := by
  unfold rDispatch
  split
  case h_1 hph hty | h_2 hph hty | h_3 hph hty | h_4 hph hty | h_5 hph hty =>
    rw [hph, hty]
    exact congrArg _ (if_pos ⟨hph, hty⟩)
  case h_6 =>
    have hrule : rRule s.rcv.phase (classify p) p = .rRxDiscard p := by simp_all [rRule]
    rw [hrule]
    rfl

/-- The sender's dispatch runs the rule of the table, whose guard is the row it stands in with its extra condition. -/
theorem exec_sRule (p : Packet) (s : State) : exec (sRule s.snd.phase (classify p) p) s = .next (sDispatch p s) := by
  unfold sDispatch
  split
  case h_1 hph hty | h_2 hph hty =>
    rw [hph, hty]
    exact congrArg _ (if_pos ⟨hph, hty⟩)
  case h_3 hph hty => simp [sRule, exec, execSRxFinack, sRxDiscard, hph, hty]
  case h_4 hph hty => simp [sRule, exec, execSRxPeerfin, sRxDiscard, hph, hty]
  case h_5 =>
    have hrule : sRule s.snd.phase (classify p) p = .sRxDiscard p := by simp_all [sRule]
    rw [hrule]
    rfl

section Polls

variable {s : State} {b : Bytes} {p : Packet}

theorem poll_sr_of_not_polls (h : rcvPolls s.rcv.phase ≠ true) : pollDatagram .sr b s = s := if_neg h

theorem poll_rs_of_not_polls (h : sndPolls s.snd.phase ≠ true) : pollDatagram .rs b s = s := if_neg h

/-- A polling receiver runs its corruption rule on what `DECODE` rejects (R232). -/
theorem poll_sr_of_error {c : Cause} (hpolls : rcvPolls s.rcv.phase = true)
    (hc : decodeFrame s.cfg.payloadMax b = .error c) : .next (pollDatagram .sr b s) = exec (.rRxCorrupt b c) s := by
  simp only [pollDatagram, hpolls, if_true, rReceive, hc]
  rfl

/-- A polling sender runs its corruption rule on what `DECODE` rejects (R186). -/
theorem poll_rs_of_error {c : Cause} (hpolls : sndPolls s.snd.phase = true)
    (hc : decodeFrame s.cfg.payloadMax b = .error c) : .next (pollDatagram .rs b s) = exec (.sRxCorrupt b c) s := by
  simp only [pollDatagram, hpolls, if_true, sReceive, hc]
  rfl

/-- A polling receiver logs a valid frame and runs the rule of the table (R231). -/
theorem poll_sr_of_ok (hpolls : rcvPolls s.rcv.phase = true) (hp : decodeFrame s.cfg.payloadMax b = .ok p) :
    .next (pollDatagram .sr b s) =
      exec (rRule s.rcv.phase (frameType b) p) (logRcv (packetRec s.now p) s) := by
  simp only [pollDatagram, hpolls, if_true, rReceive, hp]
  rw [← classify_of_decodeFrame hp]
  exact (exec_rRule p (logRcv (packetRec s.now p) s)).symm

/-- A polling sender logs a valid frame and runs the rule of the table (R185). -/
theorem poll_rs_of_ok (hpolls : sndPolls s.snd.phase = true) (hp : decodeFrame s.cfg.payloadMax b = .ok p) :
    .next (pollDatagram .rs b s) =
      exec (sRule s.snd.phase (frameType b) p) (logSnd (packetRec s.now p) s) := by
  simp only [pollDatagram, hpolls, if_true, sReceive, hp]
  rw [← classify_of_decodeFrame hp]
  exact (exec_sRule p (logSnd (packetRec s.now p) s)).symm

/-- A valid frame of a reserved type only leaves the record of its poll at the receiver (R242). -/
theorem poll_sr_of_rsv (hpolls : rcvPolls s.rcv.phase = true) (hp : decodeFrame s.cfg.payloadMax b = .ok p)
    (hty : frameType b = .rsv) : Host.Outcome.next (φ := Fault) (ρ := Refusal) (pollDatagram .sr b s) =
      .next (logRcv ⟨.rcv, s.now, some .rsv, some p.seq.toNat, p.payload.length, some p.ackNum.toNat⟩ s) := by
  rw [poll_sr_of_ok hpolls hp, hty, rRule_rsv, packetRec_of_classify _ ((classify_of_decodeFrame hp).trans hty)]
  rfl

/-- A valid frame of a reserved type only leaves the record of its poll at the sender (R198). -/
theorem poll_rs_of_rsv (hpolls : sndPolls s.snd.phase = true) (hp : decodeFrame s.cfg.payloadMax b = .ok p)
    (hty : frameType b = .rsv) : Host.Outcome.next (φ := Fault) (ρ := Refusal) (pollDatagram .rs b s) =
      .next (logSnd ⟨.rcv, s.now, some .rsv, some p.seq.toNat, p.payload.length, some p.ackNum.toNat⟩ s) := by
  rw [poll_rs_of_ok hpolls hp, hty, sRule_rsv, packetRec_of_classify _ ((classify_of_decodeFrame hp).trans hty)]
  rfl

end Polls

/-! ## Steps by the schedule's head (R100, R104, R289; entries 2, 7) -/

section Steps

variable {s : State} {rest : List Slot}

theorem step_of_sched_nil (h : s.env.sched = []) : step s = .next s := by
  simp only [step, fetch, h]

/-- A slot that the decoder rejects is left to `undecoded`, on the state without it. -/
theorem step_of_decode_error {slot : Slot} {e : DecodeError} (hsched : s.env.sched = slot :: rest)
    (hdecode : decode s.cfg.payloadMax slot = .error e) :
    step s = undecoded slot (s.withEnv { s.env with sched := rest }) := by
  simp only [step, fetch, hsched, hdecode]

theorem step_of_opOfCode_some {c : Byte} {o : Operands} {i : Instr} (hsched : s.env.sched = .event c o :: rest)
    (hcode : opOfCode c o = some i) : step s = exec i (s.withEnv { s.env with sched := rest }) :=
  stepRunsTheDecodedOperation s _ rest i hsched (by simp only [decode, decodeEvent, hcode])

theorem step_of_opOfCode_none {c : Byte} {o : Operands} (hsched : s.env.sched = .event c o :: rest)
    (hcode : opOfCode c o = none) : step s = .refused (.undefinedCode c) :=
  step_of_decode_error (e := .undefinedCode c) hsched (by simp only [decode, decodeEvent, hcode])

/-- A datagram is polled whether it decodes to a frame operation or not. -/
theorem step_of_frame {d : Dir} {b : Bytes} (hsched : s.env.sched = .frame d b :: rest) :
    step s = .next (pollDatagram d b (s.withEnv { s.env with sched := rest })) := by
  rcases hdecode : decode s.cfg.payloadMax (.frame d b) with e | i
  · exact step_of_decode_error hsched hdecode
  · rw [stepRunsTheDecodedOperation s _ rest i hsched hdecode]
    exact exec_of_encode_frame _ (encode_of_decode_frame hdecode)

end Steps

/-- Settles O13: a datagram's step is its poll, whose outcome `DECODE` and the type at the flag bytes decide. -/
theorem stepWithoutAnOperation : Obligations.StepWithoutAnOperation := by
  intro s rest s1 rcvPolling sndPolling reserved
  refine ⟨step_of_sched_nil, fun c o hsched => ⟨fun i => step_of_opOfCode_some hsched, step_of_opOfCode_none hsched⟩,
    fun b hsched => ?_, fun b hsched => ?_⟩
  · have hpoll : rcvPolling → rcvPolls s1.rcv.phase = true := (rcvPolls_iff _).2
    rw [step_of_frame hsched]
    refine ⟨?_, ?_, ?_, ?_⟩
    · exact fun hshort hp => poll_sr_of_error (hpoll hp) (decodeFrame_of_short hshort)
    · exact fun hlong hp => poll_sr_of_error (hpoll hp) (decodeFrame_of_long hlong)
    · rintro ⟨-, -, hflags⟩ hp
      exact ⟨fun c => poll_sr_of_error (hpoll hp),
        fun p hok => poll_sr_of_rsv (hpoll hp) hok (frameType_eq_rsv_iff.2 hflags)⟩
    · exact fun _ hp => congrArg _ (poll_sr_of_not_polls (mt (rcvPolls_iff _).1 hp))
  · have hpoll : sndPolling → sndPolls s1.snd.phase = true := (sndPolls_iff _).2
    rw [step_of_frame hsched]
    refine ⟨?_, ?_, ?_, ?_⟩
    · exact fun hshort hp => poll_rs_of_error (hpoll hp) (decodeFrame_of_short hshort)
    · exact fun hlong hp => poll_rs_of_error (hpoll hp) (decodeFrame_of_long hlong)
    · rintro ⟨-, -, hflags⟩ hp
      exact ⟨fun c => poll_rs_of_error (hpoll hp),
        fun p hok => poll_rs_of_rsv (hpoll hp) hok (frameType_eq_rsv_iff.2 hflags)⟩
    · exact fun _ hp => congrArg _ (poll_rs_of_not_polls (mt (sndPolls_iff _).1 hp))

/-! ## A valid frame as an operation (R98, R185, R231; entry 7) -/

section Receiver

variable {s : State} {w : WireFrame} {p : Packet} {i : Instr} {ph : RcvPhase} {ty : FrameType}
  (hi : encode i = .frame .sr (wireBytes w)) (hp : decodeFrame s.cfg.payloadMax (wireBytes w) = .ok p)
  (hty : wireType w = ty) (hph : s.rcv.phase = ph)

include hi in
/-- A receiver that does not poll leaves a frame alone (R231). -/
theorem exec_frame_sr_of_not_polls (h : rcvPolls s.rcv.phase ≠ true) : exec i s = .next s := by
  rw [exec_of_encode_frame s hi, poll_sr_of_not_polls h]

include hi hp hty hph

/-- A frame row handed to a polling receiver is the rule of the table on the state with the frame's record. -/
theorem exec_frame_sr (hpolls : rcvPolls ph = true) :
    exec i s = exec (rRule ph ty p) (logRcv (packetRec s.now p) s) := by
  subst hty hph
  exact (exec_of_encode_frame s hi).trans (poll_sr_of_ok hpolls hp)

/-- Both answer a next state, the same one. -/
theorem exec_frame_sr_next (hpolls : rcvPolls ph = true) :
    ∃ t, exec (rRule ph ty p) (logRcv (packetRec s.now p) s) = .next t ∧ exec i s = .next t := by
  have hnext := exec_rRule p (logRcv (packetRec s.now p) s)
  rw [classify_of_decodeFrame hp] at hnext
  subst hty hph
  exact ⟨_, hnext, (exec_frame_sr hi hp rfl rfl hpolls).trans hnext⟩

/-- A type without an entry in the table leaves its record and no more (R242). -/
theorem exec_frame_sr_discard (hpolls : rcvPolls ph = true) (hrule : rRule ph ty p = .rRxDiscard p) :
    exec i s = .next (logRcv (packetRec s.now p) s) := by
  rw [exec_frame_sr hi hp hty hph hpolls, hrule]
  rfl

end Receiver

section Sender

variable {s : State} {w : WireFrame} {p : Packet} {i : Instr} {ph : SndPhase} {ty : FrameType}
  (hi : encode i = .frame .rs (wireBytes w)) (hp : decodeFrame s.cfg.payloadMax (wireBytes w) = .ok p)
  (hty : wireType w = ty) (hph : s.snd.phase = ph)

include hi in
/-- A sender that does not poll leaves a frame alone (R185). -/
theorem exec_frame_rs_of_not_polls (h : sndPolls s.snd.phase ≠ true) : exec i s = .next s := by
  rw [exec_of_encode_frame s hi, poll_rs_of_not_polls h]

include hi hp hty hph

/-- A frame row handed to a polling sender is the rule of the table on the state with the frame's record. -/
theorem exec_frame_rs (hpolls : sndPolls ph = true) :
    exec i s = exec (sRule ph ty p) (logSnd (packetRec s.now p) s) := by
  subst hty hph
  exact (exec_of_encode_frame s hi).trans (poll_rs_of_ok hpolls hp)

/-- Both answer a next state, the same one. -/
theorem exec_frame_rs_next (hpolls : sndPolls ph = true) :
    ∃ t, exec (sRule ph ty p) (logSnd (packetRec s.now p) s) = .next t ∧ exec i s = .next t := by
  have hnext := exec_sRule p (logSnd (packetRec s.now p) s)
  rw [classify_of_decodeFrame hp] at hnext
  subst hty hph
  exact ⟨_, hnext, (exec_frame_rs hi hp rfl rfl hpolls).trans hnext⟩

/-- Where the rule's guard does not hold, the frame leaves its record and no more (R198). -/
theorem exec_frame_rs_discard (hpolls : sndPolls ph = true)
    (hrule : sRule ph ty p = .sRxDiscard p ∨ ¬ enabled (sRule ph ty p) (logSnd (packetRec s.now p) s)) :
    exec i s = .next (logSnd (packetRec s.now p) s) := by
  rw [exec_frame_rs hi hp hty hph hpolls]
  obtain hrule | hrule := hrule
  · rw [hrule]
    rfl
  · exact exec_of_not_enabled hrule

end Sender

/-- Settles O14: phase by phase along the table of R231 (`rRule`), the phases that do not poll last. -/
theorem receiverRunsTheFramesRule : Obligations.ReceiverRunsTheFramesRule := by
  intro w p s hp s1
  have hclass : classify p = wireType w := classify_of_decodeFrame hp
  refine ⟨fun hty => ⟨hclass.trans hty, fun hph => exec_frame_sr_next rfl hp hty hph rfl, ?_⟩,
    fun hty => ⟨hclass.trans hty, ?_⟩,
    fun hty => ⟨hclass.trans hty, fun hph => exec_frame_sr_next rfl hp hty hph rfl,
      fun hph => exec_frame_sr_next rfl hp hty hph rfl, ?_⟩,
    fun hty => ⟨hclass.trans hty, fun hph => exec_frame_sr_next rfl hp hty hph rfl, ?_⟩,
    fun hty => ⟨hclass.trans hty, fun hph => exec_frame_sr_next rfl hp hty hph rfl, ?_⟩, fun hidle => ?_⟩
  · rintro (hph | hph | hph) <;> exact exec_frame_sr_discard rfl hp hty hph rfl rfl
  · rintro (hph | hph | hph | hph) <;> exact exec_frame_sr_discard rfl hp hty hph rfl rfl
  · rintro (hph | hph) <;> exact exec_frame_sr_discard rfl hp hty hph rfl rfl
  · rintro (hph | hph | hph) <;> exact exec_frame_sr_discard rfl hp hty hph rfl rfl
  · rintro (hph | hph | hph) <;> exact exec_frame_sr_discard rfl hp hty hph rfl rfl
  · have hnot : rcvPolls s.rcv.phase ≠ true := by obtain hph | hph := hidle <;> rw [hph] <;> decide
    have hstay {i : Instr} (hi : encode i = .frame .sr (wireBytes w)) : exec i s = .next s :=
      exec_frame_sr_of_not_polls hi hnot
    exact ⟨hstay rfl, hstay rfl, hstay rfl, hstay rfl, hstay rfl⟩

/-- Settles O15: along the table of R185 (`sRule`), whose extra conditions are the guards of R196 and R197; the phases
that do not poll last. -/
theorem senderRunsTheFramesRule : Obligations.SenderRunsTheFramesRule := by
  intro w p s hp s1
  have hclass : classify p = wireType w := classify_of_decodeFrame hp
  refine ⟨fun hty => ⟨fun hph => ?_, ?_⟩,
    fun hty => ⟨fun hph => exec_frame_rs_next rfl hp hty hph rfl, fun hph hacked hnum => ?_, fun hph hcond => ?_,
      fun hph => exec_frame_rs_discard rfl hp hty hph rfl (.inl rfl)⟩,
    fun hty => ⟨fun hph _ => exec_frame_rs_next rfl hp hty hph rfl, ?_⟩, fun hpolls => ⟨fun hty => ?_, fun hty => ?_⟩,
    fun hidle => ?_⟩
  · -- `S.RX_SYNACK`
    exact (exec_frame_rs rfl hp hty hph rfl).trans (congrArg _ (if_pos ⟨hph, hclass.trans hty⟩))
  · rintro (hph | hph) <;> exact exec_frame_rs_discard rfl hp hty hph rfl (.inl rfl)
  · -- `S.RX_FINACK` where its number matches
    exact (exec_frame_rs rfl hp hty hph rfl).trans
      (congrArg _ (if_pos ⟨hph, hclass.trans hty, (finAckMatches_iff p _).2 ⟨hacked, hnum⟩⟩))
  · exact exec_frame_rs_discard rfl hp hty hph rfl
      (.inr (not_enabled_sRxFinack (hcond.elim (.inr ∘ .inl) (.inr ∘ .inr ∘ .inr))))
  · -- a peer's `FIN` before the own one is acknowledged
    rintro (hph | hph | ⟨hph, hunacked⟩)
    · exact exec_frame_rs_discard rfl hp hty hph rfl (.inl rfl)
    · exact exec_frame_rs_discard rfl hp hty hph rfl (.inl rfl)
    · exact exec_frame_rs_discard rfl hp hty hph rfl (.inr (not_enabled_sRxPeerfin (.inr (.inl hunacked))))
  · obtain hph | hph | hph := hpolls <;> exact exec_frame_rs_discard rfl hp hty hph rfl (.inl rfl)
  · obtain hph | hph | hph := hpolls <;> exact exec_frame_rs_discard rfl hp hty hph rfl (.inl rfl)
  · have hnot : sndPolls s.snd.phase ≠ true := by obtain hph | hph | hph := hidle <;> rw [hph] <;> decide
    have hstay {i : Instr} (hi : encode i = .frame .rs (wireBytes w)) : exec i s = .next s :=
      exec_frame_rs_of_not_polls hi hnot
    exact ⟨hstay rfl, hstay rfl, hstay rfl, hstay rfl, hstay rfl⟩

end Sys2Proof.Proofs.Encoding

namespace Sys2Proof.Proofs.Codec

open Sys2Proof Sys2Proof.Machine

/-! ## `ENCODE`: the frame, its checksum field and the round trip (R130, R131, R135) -/

/-- A digest read as a little-endian number (R65). -/
theorem leInt4_toNat (d : Quad) :
    (leInt4 d).toNat = d.b0.toNat + 256 * d.b1.toNat + 65536 * d.b2.toNat + 16777216 * d.b3.toNat := by
  have happend (n : Nat) (x : BitVec n) (y : Byte) : (x ++ y).toNat = 256 * x.toNat + y.toNat := by
    rw [BitVec.toNat_append, ← Nat.shiftLeft_add_eq_or_of_lt y.isLt, Nat.shiftLeft_eq]
    omega
  simp only [leInt4, happend]
  omega

/-- The checksum field's value, written out byte by byte of the digest (R96). -/
theorem checksumOf_eq_ofNat (d : Quad) : checksumOf d = BitVec.ofNat 64
    (d.b0.toNat + 256 * d.b1.toNat + 65536 * d.b2.toNat + 16777216 * d.b3.toNat) := by
  rw [← leInt4_toNat, checksumOf, ← BitVec.ofNat_toNat]

/-- The header with a digest embedded: four zero bytes, then the digest's last byte first (R96, R130). -/
theorem hdr_checksumOf (p : Packet) (d : Quad) : hdr p (checksumOf d) =
    quadBytes p.src ++ quadBytes p.dst ++ quadBytes (be32 p.seq) ++ quadBytes (be32 p.ackNum) ++
      quadBytes (be32 p.window) ++ [flagByte p.syn, flagByte p.ack, flagByte p.fin, 0#8] ++
      [0#8, 0#8, 0#8, 0#8] ++ [d.b3, d.b2, d.b1, d.b0] := by
  rw [hdr, be64Hi_checksumOf, be64Lo_checksumOf]
  rfl

theorem exec_encode_of_le {p : Packet} {s : State} (h : p.payload.length ≤ s.cfg.payloadMax) :
    exec (.encode p) s = .next (s.withResult
      (.encoded (encodeFrame s.cfg.payloadMax p).1 (encodeFrame s.cfg.payloadMax p).2)) := if_pos h

theorem exec_encode_of_lt {p : Packet} {s : State} (h : s.cfg.payloadMax < p.payload.length) :
    exec (.encode p) s = .refused .payloadTooLong := if_neg (Nat.not_le.2 h)

section Frames

variable (dig : Bytes → Quad) (p : Packet)

theorem encodeFrameWith_length : (encodeFrameWith dig p).1.length = 32 + p.payload.length := by
  rw [encodeFrameWith, List.length_append, hdr_length]

/-- An encoded frame stores the checksum of its own digest (R131). -/
theorem checksum_encodeFrameWith :
    beInt8 (quadAt (encodeFrameWith dig p).1 24) (quadAt (encodeFrameWith dig p).1 28) =
      checksumOf (dig (zerock (encodeFrameWith dig p).1)) := by
  simp only [encodeFrameWith, checksum_hdr, zerock_hdr]

end Frames

/-! ## `DECODE`: the length, the digest, the fields (R132, R271) -/

section Decode

variable {pm : Nat} {dig : Bytes → Quad} {f : Bytes}

/-- Within the length bounds only the digest test is left. -/
theorem decodeFrameWith_of_length (hlow : 32 ≤ f.length) (hhigh : f.length ≤ 32 + pm) :
    decodeFrameWith pm dig f =
      if beInt8 (quadAt f 24) (quadAt f 28) ≠ checksumOf (dig (zerock f)) then .error .digest
      else .ok (packetAt f) :=
  (if_neg (Nat.not_lt.2 hlow)).trans (if_neg (Nat.not_lt.2 hhigh))

/-- The round trip, which needs nothing of the digest function (R135). -/
theorem decodeFrameWith_encodeFrameWith {p : Packet} (h : p.payload.length ≤ pm) :
    decodeFrameWith pm dig (encodeFrameWith dig p).1 = .ok (encodeFrameWith dig p).2 := by
  have hlen := encodeFrameWith_length dig p
  rw [decodeFrameWith_of_length (by omega) (by omega), if_neg (not_not.2 (checksum_encodeFrameWith dig p))]
  exact congrArg Except.ok (packetAt_hdr p _)

end Decode

/-- Settles O5: the round trip, at the model's digest. -/
theorem decodeUndoesEncode : Obligations.DecodeUndoesEncode :=
  fun _ _ h => ⟨decodeFrameWith_encodeFrameWith h, _, rfl⟩

/-- Settles O1: the header with a zero checksum and with the digest embedded, and the bound on the payload. -/
theorem encodeEmbedsTheDigest : Obligations.EncodeEmbedsTheDigest := by
  intro p s d f c
  refine ⟨fun hle => ?_, exec_encode_of_lt⟩
  have hchecksum : checksumOf d = c := checksumOf_eq_ofNat d
  have hframe : (encodeFrame s.cfg.payloadMax p).1 = f := congrArg (· ++ p.payload) (hdr_checksumOf p d)
  have hpacket : (encodeFrame s.cfg.payloadMax p).2 = { p with checksum := c } := by
    rw [← hchecksum]
    rfl
  rw [exec_encode_of_le hle, hframe, hpacket]
  rfl

/-- What `DECODE` hands to its caller (R132). -/
def decodeAnswer (r : Except Cause Packet) : Result :=
  match r with
  | .ok p => .decoded p
  | .error c => .corruption c

theorem exec_decode (f : Bytes) (s : State) :
    exec (.decode f) s = .next (s.withResult (decodeAnswer (decodeFrame s.cfg.payloadMax f))) := by
  simp only [exec, execDecode]
  cases decodeFrame s.cfg.payloadMax f <;> rfl

/-- The caller's answer is the chain of tests, each with its cause (R271). -/
theorem decodeAnswer_decodeFrame (pm : Nat) (f : Bytes) : decodeAnswer (decodeFrame pm f) =
    if f.length < 32 then .corruption .short
    else if 32 + pm < f.length then .corruption .long
    else if beInt8 (quadAt f 24) (quadAt f 28) ≠ checksumOf (digest4 pm (zerock f)) then .corruption .digest
    else .decoded (packetAt f) := by
  rw [decodeFrame, decodeFrameWith, apply_ite decodeAnswer, apply_ite decodeAnswer, apply_ite decodeAnswer]
  rfl

/-- Settles O2: the chain of tests handed to the caller, its digest as a little-endian number. -/
theorem decodeTestsLengthThenDigest : Obligations.DecodeTestsLengthThenDigest := by
  intro f s stored d c
  rw [exec_decode, decodeAnswer_decodeFrame, checksumOf_eq_ofNat]
  rfl

/-! ## `FLIP6` and the digests that see it (R133, R136, R137, R138, R139) -/

theorem exec_flip6 (f : Bytes) (s : State) : exec (.flip6 f) s = .next (s.withResult (.flipped (flip6 f))) := rfl

theorem flip6_getElem?_six {f : Bytes} (h : 6 < f.length) : (flip6 f)[6]? = (f[6]?).map (· ^^^ 0x65#8) := by
  simp [flip6_eq f h, byteAt, h]

theorem byteAt_flip6_six {f : Bytes} (h : 6 < f.length) : byteAt (flip6 f) 6 = byteAt f 6 ^^^ 0x65#8 := by
  simp [flip6_eq f h, byteAt, h]

/-- Settles O3: `FLIP6` is a replacement at index 6, and its own inverse. -/
theorem flipChangesByteSixOnly : Obligations.FlipChangesByteSixOnly := by
  refine fun f s => ⟨fun h => ?_, fun _ => ⟨_, exec_flip6 f s⟩⟩
  refine ⟨flip6 f, exec_flip6 f s, flip6_length f h, flip6_getElem?_six h, fun i => flip6_getElem? f i h, ?_⟩
  rw [exec_flip6, flip6_flip6 f h]
  rfl

section Digest

variable {pm : Nat} {m : Bytes}

theorem digestDomain_iff : digestDomain pm m = true ↔
    32 ≤ m.length ∧ m.length ≤ 32 + pm ∧ (m.drop 24).take 8 = List.replicate 8 0#8 := by
  simp [digestDomain, and_assoc]

/-- Where the arbitrary function misses P2, the parity of byte 6 decides the digest (R136; entry 9). -/
theorem digest4_of_eq (hdomain : digestDomain pm m = true)
    (hfree : Config.digest4Free m = Config.digest4Free (flip6 m)) :
    digest4 pm m = if (byteAt m 6).getLsbD 0 = true then
      { Config.digest4Free m with b0 := (Config.digest4Free m).b0 ^^^ 1#8 } else Config.digest4Free m := by
  simp only [digest4, hdomain, ← hfree, true_and]

/-- A quad whose first byte has its lowest bit turned is another quad. -/
theorem quad_flipBit_ne (d : Quad) : { d with b0 := d.b0 ^^^ 1#8 } ≠ d := by
  intro h
  have hbyte : d.b0 ^^^ 1#8 = d.b0 := congrArg Quad.b0 h
  simp at hbyte

/-- P2 for the model's digest. Where the arbitrary function misses it, `FLIP6` turns the parity of byte 6, so
exactly one of the two strings gets the other value (R136; entry 9). -/
theorem digest4_flip6_ne (hdomain : digestDomain pm m = true) : digest4 pm m ≠ digest4 pm (flip6 m) := by
  obtain ⟨hlow, -, -⟩ := digestDomain_iff.1 hdomain
  have h6 : 6 < m.length := by omega
  have hback : flip6 (flip6 m) = m := flip6_flip6 m h6
  by_cases hfree : Config.digest4Free m = Config.digest4Free (flip6 m)
  · have hparity : (byteAt (flip6 m) 6).getLsbD 0 = !(byteAt m 6).getLsbD 0 := by simp [byteAt_flip6_six h6]
    have hdomain' : digestDomain pm (flip6 m) = true := (digestDomain_flip6 pm m (by omega)).trans hdomain
    rw [digest4_of_eq hdomain hfree, digest4_of_eq hdomain' (hback.symm ▸ hfree.symm), hparity, ← hfree]
    cases (byteAt m 6).getLsbD 0 with
    | true => exact quad_flipBit_ne _
    | false => exact (quad_flipBit_ne _).symm
  · rw [digest4_of_ne pm m hfree, digest4_of_ne pm (flip6 m) (hback.symm ▸ Ne.symm hfree)]
    exact hfree

end Digest

section Flipped

variable {pm : Nat} {f : Bytes}

/-- The string that `DECODE` takes the digest of is in P2's domain (R136). -/
theorem digestDomain_zerock (hlow : 32 ≤ f.length) (hhigh : f.length ≤ 32 + pm) :
    digestDomain pm (zerock f) = true := by
  have hlen : (zerock f).length = f.length := by
    simp only [zerock, List.length_append, List.length_take, List.length_replicate, List.length_drop]
    omega
  have htake : (f.take 24).length = 24 := List.length_take_of_le (by omega)
  refine digestDomain_iff.2 ⟨by omega, by omega, ?_⟩
  rw [zerock, List.append_assoc, List.drop_left' htake, List.take_left' List.length_replicate]

/-- `FLIP6` keeps the stored checksum and acts inside the digested string, where P2 tells the two apart (R138). -/
theorem decodeFrame_flip6 (hlow : 32 ≤ f.length) (hhigh : f.length ≤ 32 + pm)
    (hvalid : beInt8 (quadAt f 24) (quadAt f 28) = checksumOf (digest4 pm (zerock f))) :
    decodeFrame pm (flip6 f) = .error .digest := by
  have h6 : 6 < f.length := by omega
  have hlen := flip6_length f h6
  rw [decodeFrame, decodeFrameWith_of_length (by omega) (by omega), quadAt_flip6 f 24 h6 (by omega),
    quadAt_flip6 f 28 h6 (by omega), hvalid, zerock_flip6 f h6]
  exact if_pos fun heq => digest4_flip6_ne (digestDomain_zerock hlow hhigh) (checksumOf_inj _ _ heq)

end Flipped

/-- Settles O6: an encoded frame stores its own checksum, so its flipped copy does not. -/
theorem flippedFrameFailsTheDigest : Obligations.FlippedFrameFailsTheDigest := by
  intro pm p h
  have hlen : (encodeFrame pm p).1.length = 32 + p.payload.length := encodeFrameWith_length _ p
  exact decodeFrame_flip6 (by omega) (by omega) (checksum_encodeFrameWith _ p)

/-! ### The test digest of R137

Each shift can be undone, so a difference in one byte is never lost by the bytes after it. -/

/-- The highest bit after a shift says whether the polynomial was added. -/
theorem crcBit_getLsbD_31 (c : U32) : (crcBit c).getLsbD 31 = c.getLsbD 0 := by
  unfold crcBit
  split <;> simp_all

theorem crcBit_injective : Function.Injective crcBit := by
  intro c d h
  have hlow : c.getLsbD 0 = d.getLsbD 0 := by rw [← crcBit_getLsbD_31, ← crcBit_getLsbD_31, h]
  have hshift : c >>> 1 = d >>> 1 := by
    simp only [crcBit, hlow] at h
    split at h
    · exact (BitVec.xor_left_inj _).1 h
    · exact h
  ext i hi
  cases i with
  | zero => exact hlow
  | succ n => simpa [Nat.add_comm 1, hi] using congrArg (·.getLsbD n) hshift

theorem crcByte_eq_iff {c d : U32} {a b : Byte} :
    crcByte c a = crcByte d b ↔ c ^^^ a.setWidth 32 = d ^^^ b.setWidth 32 := by
  simp only [crcByte, crcBit_injective.eq_iff]

theorem foldl_crcByte_injective (m : Bytes) : Function.Injective (m.foldl crcByte) := by
  induction m with
  | nil => exact fun _ _ h => h
  | cons b m ih => exact fun c d h => (BitVec.xor_left_inj _).1 (crcByte_eq_iff.1 (ih h))

theorem digest4Ref_eq_iff {m n : Bytes} :
    digest4Ref m = digest4Ref n ↔ m.foldl crcByte 0xFFFFFFFF#32 = n.foldl crcByte 0xFFFFFFFF#32 := by
  have hbe32 : Function.Injective be32 := Function.LeftInverse.injective beInt4_be32
  rw [digest4Ref, digest4Ref, hbe32.eq_iff, BitVec.xor_left_inj]

/-- A string cut around its byte 6. -/
theorem eq_append_byteAt_six {m : Bytes} (h : 6 < m.length) : m = m.take 6 ++ byteAt m 6 :: m.drop 7 := by
  simp [byteAt, h]

theorem flip6_eq_append {m : Bytes} (h : 6 < m.length) :
    flip6 m = m.take 6 ++ (byteAt m 6 ^^^ 0x65#8) :: m.drop 7 := by
  rw [flip6_eq m h, List.set_eq_take_append_cons_drop, if_pos h]

/-- P2 for the test digest, for every string that has a byte 6. -/
theorem digest4Ref_flip6_ne {m : Bytes} (h : 6 < m.length) : digest4Ref m ≠ digest4Ref (flip6 m) := by
  intro heq
  have hfold := digest4Ref_eq_iff.1 heq
  rw [flip6_eq_append h] at hfold
  nth_rw 1 [eq_append_byteAt_six h] at hfold
  simp only [List.foldl_append, List.foldl_cons] at hfold
  have hbyte := crcByte_eq_iff.1 (foldl_crcByte_injective _ hfold)
  rw [BitVec.xor_right_inj] at hbyte
  have hbit := congrArg (·.getLsbD 0) hbyte
  simp at hbit

theorem digest4Ref_check_value :
    digest4Ref [0x31#8, 0x32#8, 0x33#8, 0x34#8, 0x35#8, 0x36#8, 0x37#8, 0x38#8, 0x39#8] =
      ⟨0xCB#8, 0xF4#8, 0x39#8, 0x26#8⟩ := by
  simp [digest4Ref, crcByte, crcBit, be32]

/-- Settles O7: P2 of both digests, and the check value. -/
theorem digestSeesTheFlippedByte : Obligations.DigestSeesTheFlippedByte :=
  ⟨fun _ _ hlow hhigh hzero => digest4_flip6_ne (digestDomain_iff.2 ⟨hlow, hhigh, hzero⟩),
    fun _ hlow _ => digest4Ref_flip6_ne (by omega), digest4Ref_check_value⟩

/-! ## `CLASSIFY` (R134) -/

/-- The type table of R98 as a chain of tests, `fin` first. -/
theorem classify_eq (p : Packet) : classify p =
    if p.fin then (if p.syn || p.ack then .rsv else .fin)
    else if p.syn then (if p.ack then .synack else .syn)
    else if p.ack then .ack else .data := by
  rw [classify]
  cases p.syn <;> cases p.ack <;> cases p.fin <;> rfl

theorem exec_classify (p : Packet) (s : State) :
    exec (.classify p) s = .next (s.withResult (.classified (classify p))) := rfl

/-- Settles O4: the type table as a chain of tests, handed to the caller. -/
theorem classifyFollowsTheFlagTable : Obligations.ClassifyFollowsTheFlagTable := by
  intro p s
  rw [exec_classify, classify_eq]
  rfl

end Sys2Proof.Proofs.Codec

namespace Sys2Proof.Proofs.Injector

open Sys2Proof Sys2Proof.Machine Sys2Proof.Proofs.Codec

/-! ## What a log record shows (R153, R284) -/

/-- The record of a string with a whole header shows the packet at the header's offsets (R62). -/
theorem frameRec_of_le (tag : LogTag) (t : Time) {f : Bytes} (h : 32 ≤ f.length) :
    frameRec tag t f = ⟨tag, t, some (classify (packetAt f)), some (packetAt f).seq.toNat,
      (packetAt f).payload.length, some (packetAt f).ackNum.toNat⟩ := by
  rw [frameRec, logHeader_of_le f h]
  simp only [packetAt, framePayloadLen, List.length_drop]
  rfl

/-- Settles O11: an encoded frame has a whole header, at whose offsets the packet's own fields stand. -/
theorem logRecordShowsThePacket : Obligations.LogRecordShowsThePacket := by
  intro pm tag t p
  have hlen : 32 ≤ (encodeFrame pm p).1.length :=
    (Nat.le_add_right 32 _).trans_eq (encodeFrameWith_length (digest4 pm) p).symm
  have hpacket : packetAt (encodeFrame pm p).1 = (encodeFrame pm p).2 := packetAt_hdr p _
  rw [frameRec_of_le tag t hlen, hpacket]
  rfl

/-! ## Draws (R151; entry 13) -/

section Draws

variable (n : Nat) (s : State)

@[simp] theorem drawAt_lt_one : drawAt n s < 1 := (drawAt_range n s).2

@[simp] theorem not_drawAt_lt_zero : ¬ drawAt n s < 0 := not_lt.2 (drawAt_range n s).1

theorem delayAt_nonneg (m : Time) : 0 ≤ delayAt m s := le_max_left _ _

variable {n s}

theorem drawAt_of_queued {u : Rat} (hqueue : s.env.draws[n]? = some u) (h0 : 0 ≤ u) (h1 : u < 1) :
    drawAt n s = u := by
  simp only [drawAt, hqueue, unitDraw_of_range u h0 h1]

theorem delayAt_of_queued {m d : Rat} (hqueue : s.env.delays[0]? = some d) (h0 : 0 ≤ d) (hm : d ≤ m) :
    delayAt m s = d := by
  simp only [delayAt, hqueue, min_eq_right hm, max_eq_right h0]

end Draws

/-- Settles O25: by the ranges of `unitDraw` and `delayAt`, which leave a value of the range as it is. -/
theorem drawsStayInRange : Obligations.DrawsStayInRange := fun n s =>
  ⟨(drawAt_range n s).1, (drawAt_range n s).2, trial_zero n s, trial_one n s, fun m hm => delayAt_range m s hm,
    fun _ _ hqueue h0 hm => delayAt_of_queued hqueue h0 hm, fun _ hqueue h0 h1 => drawAt_of_queued hqueue h0 h1⟩

/-! ## Transmission (R162) -/

/-- What `chan.SR` holds after the frames `fs` are transmitted one after the other. -/
def sentSR (s : State) (fs : List Bytes) : List Bytes :=
  if s.snd.chanOpen then s.chanSR ++ fs else s.chanSR

section Transmission

variable {s t : State} {fs : List Bytes}

@[simp] theorem sentSR_nil : sentSR s [] = s.chanSR := by simp [sentSR]

theorem sentSR_of_open (hopen : s.snd.chanOpen = true) : sentSR s fs = s.chanSR ++ fs := if_pos hopen

/-- Frames transmitted after others stand behind them. -/
theorem sentSR_of_sentSR (hsnd : t.snd = s.snd) (hchan : t.chanSR = sentSR s fs) (gs : List Bytes) :
    sentSR t gs = sentSR s (fs ++ gs) := by
  rw [sentSR, hsnd, hchan, sentSR, sentSR]
  split_ifs
  · exact List.append_assoc _ _ _
  · rfl

theorem exists_sentSR_eq_append (s : State) (fs : List Bytes) :
    ∃ l, sentSR s fs = s.chanSR ++ l ∧ (s.snd.chanOpen = false → l = []) := by
  cases hopen : s.snd.chanOpen with
  | true => exact ⟨fs, sentSR_of_open hopen, Bool.noConfusion⟩
  | false => exact ⟨[], by simp [sentSR, hopen], fun _ => rfl⟩

end Transmission

section Operations

variable (f g : Bytes) (dest : Addr) (retx : Bool) (s : State)

theorem xmit_eq : xmit f dest s = { s with chanSR := sentSR s [f] } := by
  unfold xmit sentSR
  split <;> rfl

theorem xmit_xmit : xmit g dest (xmit f dest s) = { s with chanSR := sentSR s [f, g] } := by
  rw [xmit_eq g, sentSR_of_sentSR (xmit_snd f dest s) (congrArg State.chanSR (xmit_eq f dest s)), xmit_eq]
  rfl

/-! ## The branches of `PLD.PROCESS`, each as one update of the state (R153 to R158) -/

theorem pldDrop_eq : pldDrop f retx s = { s with
    cntS := { s.cntS with dropped := s.cntS.dropped + 1 }
    logS := s.logS ++ [frameRec (.drop retx) s.now f] } := rfl

theorem pldDup_eq : pldDup f dest retx s = { s with
    chanSR := sentSR s [f, f]
    cntS := { s.cntS with duplicated := s.cntS.duplicated + 1 }
    logS := s.logS ++ [frameRec (.dup retx) s.now f] } := by
  rw [pldDup, xmit_xmit]
  rfl

theorem pldCorrupt_eq : pldCorrupt f dest retx s = { s with
    chanSR := sentSR s [flip6 f]
    cntS := { s.cntS with corrupted := s.cntS.corrupted + 1 }
    logS := s.logS ++ [frameRec (.corr retx) s.now f] } := by
  rw [pldCorrupt, xmit_eq]
  rfl

theorem pldHold_eq : pldHold f dest retx s = { s with
    pld := { s.pld with held := some ⟨f, dest, retx⟩, wait := 0 }
    cntS := { s.cntS with reordered := s.cntS.reordered + 1 }
    logS := s.logS ++ [frameRec (.rord retx) s.now f] } := rfl

theorem pldDelay_eq : pldDelay f dest retx s = { s with
    pld := { s.pld with pending := s.pld.pending ++ [⟨f, dest, s.now + delayAt s.cfg.delayMaxDelay s⟩] }
    cntS := { s.cntS with delayed := s.cntS.delayed + 1 }
    logS := s.logS ++ [frameRec (.dely retx) s.now f]
    env := { s.env with delays := s.env.delays.drop 1, delayIdx := s.env.delayIdx + 1 } } := rfl

theorem pldPass_eq : pldPass f dest retx s = { s with
    chanSR := sentSR s [f], logS := s.logS ++ [frameRec (.sent retx) s.now f] } := by
  rw [pldPass, xmit_eq]
  rfl

theorem pldBypass_eq : pldBypass f dest s = { s with
    chanSR := sentSR s [f], logS := s.logS ++ [frameRec .snd s.now f] } := by
  rw [pldBypass, xmit_eq]
  rfl

/-- `FLIP6` with its byte read as the spec writes it (R133). -/
theorem flip6_of_seven_le {f : Bytes} (h : 7 ≤ f.length) : flip6 f = f.set 6 ((f[6]?).getD 0#8 ^^^ 0x65#8) := by
  rw [flip6_eq f h, byteAt, List.getD_eq_getElem?_getD]

end Operations

/-- Settles O18: the three branches that damage or lose a frame, and what `FLIP6` does to it. -/
theorem dropDuplicateAndCorruptAct : Obligations.DropDuplicateAndCorruptAct := fun f dest retx s =>
  ⟨congrArg Host.Outcome.next (pldDrop_eq f retx s), congrArg Host.Outcome.next (pldDup_eq f dest retx s),
    congrArg Host.Outcome.next (pldCorrupt_eq f dest retx s), flip6_of_seven_le⟩

/-- Settles O19: with nothing held the guard of `PLD.HOLD` holds. -/
theorem holdStashesTheFrame : Obligations.HoldStashesTheFrame := fun f dest retx s hheld =>
  congrArg Host.Outcome.next ((if_pos hheld).trans (pldHold_eq f dest retx s))

/-- Settles O20: the delay is the next draw. -/
theorem delaySchedulesASend : Obligations.DelaySchedulesASend := fun f dest retx s =>
  ⟨delayAt s.cfg.delayMaxDelay s, delayAt_nonneg s _, fun hbound => (delayAt_range _ s hbound).2,
    congrArg Host.Outcome.next (pldDelay_eq f dest retx s)⟩

/-- Settles O21: `XMIT` alone, and with its record. -/
theorem passAndBypassTransmit : Obligations.PassAndBypassTransmit := fun f dest retx s =>
  ⟨congrArg Host.Outcome.next (xmit_eq f dest s), congrArg Host.Outcome.next (pldPass_eq f dest retx s),
    congrArg Host.Outcome.next (pldBypass_eq f dest s)⟩

/-- Settles O16: both operations run the state function that the scope chooses. -/
theorem submitChoosesByScope : Obligations.SubmitChoosesByScope := fun f ty dest retx s =>
  ⟨fun hscope => ⟨pldProcess f dest retx s, rfl, congrArg Host.Outcome.next (if_pos hscope)⟩,
    fun hscope hty => ⟨pldBypass f dest s, rfl,
      congrArg Host.Outcome.next (pldSubmit_bypass f dest retx ty s hscope hty)⟩⟩

/-! ## The delayed send (R160, R263) -/

section Delayed

variable {m : Pending} {s : State}

theorem dlyFire_of_open (hopen : s.snd.chanOpen = true) : dlyFire m s = { s with
    pld := { s.pld with pending := s.pld.pending.erase m }
    chanSR := s.chanSR ++ [m.frame] } := if_pos hopen

theorem dlyFire_of_closed (hclosed : s.snd.chanOpen = false) : dlyFire m s = { s with
    pld := { s.pld with pending := s.pld.pending.erase m }
    logS := s.logS ++ [frameRec .dlyfail s.now m.frame] } := if_neg (ne_true_of_eq_false hclosed)

end Delayed

/-- Settles O24: for a due member the guard of `DLY.FIRE` holds, and the channel decides the rest. -/
theorem delayedSendFires : Obligations.DelayedSendFires := fun _ _ hmem hdue =>
  ⟨fun hopen => congrArg Host.Outcome.next ((if_pos ⟨hmem, hdue⟩).trans (dlyFire_of_open hopen)),
    fun hclosed => congrArg Host.Outcome.next ((if_pos ⟨hmem, hdue⟩).trans (dlyFire_of_closed hclosed))⟩

/-! ## The tick of the hold (R159) -/

/-- The state once a tick has released the frame `h`: sent behind the channel's content, logged with its own mark. -/
def released (h : Held) (s : State) : State := { s with
  chanSR := sentSR s [h.frame]
  logS := s.logS ++ [frameRec (.flush h.retx) s.now h.frame]
  pld := { s.pld with held := none, wait := 0 } }

section Tick

variable {s : State} {h : Held}

theorem tickHeld_of_none (hheld : s.pld.held = none) : tickHeld s = s := by
  simp only [tickHeld, hheld]

theorem tickHeld_of_lt (hheld : s.pld.held = some h) (hbound : s.pld.wait + 1 < s.cfg.reorderMaxDelay) :
    tickHeld s = { s with pld := { s.pld with wait := s.pld.wait + 1 } } := by
  simp only [tickHeld, hheld, if_neg (Nat.not_le.2 hbound)]
  rfl

theorem tickHeld_of_le (hheld : s.pld.held = some h) (hbound : s.cfg.reorderMaxDelay ≤ s.pld.wait + 1) :
    tickHeld s = released h s := by
  simp only [tickHeld, hheld, if_pos hbound, xmit_eq]
  rfl

/-! ### Several ticks -/

/-- Ticks issued one after the other are the iterated tick. -/
theorem execAll_replicate_pldTickheld (k : Nat) (s : State) :
    execAll (List.replicate k .pldTickheld) s = .next (tickHeld^[k] s) := by
  induction k generalizing s with
  | zero => rfl
  | succ k ih => exact ih (tickHeld s)

/-- Below the bound, ticks only lengthen the wait. -/
theorem iterate_tickHeld_of_lt (hheld : s.pld.held = some h) (k : Nat)
    (hbound : s.pld.wait + k < s.cfg.reorderMaxDelay) :
    tickHeld^[k] s = { s with pld := { s.pld with wait := s.pld.wait + k } } := by
  induction k with
  | zero => rfl
  | succ k ih =>
    rw [Function.iterate_succ_apply', ih (by omega)]
    exact tickHeld_of_lt hheld hbound

/-- The tick that reaches the bound releases the frame, and later ones find nothing held. -/
theorem iterate_tickHeld_of_le (hheld : s.pld.held = some h) (k : Nat) (hpos : s.pld.wait < s.cfg.reorderMaxDelay)
    (hbound : s.cfg.reorderMaxDelay ≤ s.pld.wait + k) :
    tickHeld^[k] s = released h s := by
  obtain ⟨before, hbefore⟩ := Nat.exists_eq_add_of_lt hpos
  obtain ⟨later, rfl⟩ := Nat.exists_eq_add_of_le' (show before + 1 ≤ k by omega)
  have hlast : tickHeld { s with pld := { s.pld with wait := s.pld.wait + before } } = released h s :=
    tickHeld_of_le (s := { s with pld := { s.pld with wait := s.pld.wait + before } }) hheld hbefore.le
  rw [Function.iterate_add_apply, Function.iterate_succ_apply', iterate_tickHeld_of_lt hheld before (by omega), hlast]
  exact Function.iterate_fixed (tickHeld_of_none rfl) later

end Tick

/-- Settles O22: the three cases of the tick. -/
theorem tickReleasesTheHeldFrame : Obligations.TickReleasesTheHeldFrame := fun _ =>
  ⟨fun hheld => congrArg Host.Outcome.next (tickHeld_of_none hheld),
    fun _ hheld hbound => congrArg Host.Outcome.next (tickHeld_of_lt hheld hbound),
    fun _ hheld hbound => congrArg Host.Outcome.next (tickHeld_of_le hheld hbound)⟩

/-- Settles O23: by the iterated tick, below the bound and from the bound on. -/
theorem heldFrameWaitsForItsTicks : Obligations.HeldFrameWaitsForItsTicks := by
  intro k s h hheld hwait hpos
  rw [execAll_replicate_pldTickheld]
  constructor
  · intro hbound
    rw [iterate_tickHeld_of_lt hheld k (by omega), hwait, Nat.zero_add]
  · intro hbound hopen
    exact ⟨_, congrArg Host.Outcome.next (iterate_tickHeld_of_le hheld k (by omega) (by omega)), rfl, rfl,
      sentSR_of_open hopen⟩

/-! ## `PLD.PROCESS` (R152) -/

section Process

variable (f : Bytes) (dest : Addr) (retx : Bool) (s : State)

/-- The chain of trials as comparisons of draws with probabilities. -/
theorem pldProcess_eq : pldProcess f dest retx s =
    if drawAt 0 s < s.cfg.pDrop then pldDrop f retx (skipDraws 1 s)
    else if drawAt 1 s < s.cfg.pDuplicate then tickHeld (pldDup f dest retx (skipDraws 2 s))
    else if drawAt 2 s < s.cfg.pCorrupt then tickHeld (pldCorrupt f dest retx (skipDraws 3 s))
    else if s.pld.held = none then
      if drawAt 3 s < s.cfg.pReorder then pldHold f dest retx (skipDraws 4 s)
      else if drawAt 4 s < s.cfg.pDelay then tickHeld (pldDelay f dest retx (skipDraws 5 s))
      else tickHeld (pldPass f dest retx (skipDraws 5 s))
    else if drawAt 3 s < s.cfg.pDelay then tickHeld (pldDelay f dest retx (skipDraws 4 s))
    else tickHeld (pldPass f dest retx (skipDraws 4 s)) := by
  simp only [pldProcess, trial, decide_eq_true_eq]

end Process

/-- Settles O17: under the outcomes of the trials both sides run the same branch on the state behind its draws. -/
theorem processRunsOneBranch : Obligations.ProcessRunsOneBranch := by
  intro f dest retx s after runs
  have hruns {ops : List Instr} {n : Nat} {t : State} (hops : execAll ops (skipDraws n s) = .next t)
      (hprocess : pldProcess f dest retx s = t) : runs ops n := ⟨t, hops, congrArg Host.Outcome.next hprocess⟩
  have hchain := pldProcess_eq f dest retx s
  split_ifs at hchain ⊢ with hdrop hdup hcorrupt hheld hreorder hdelay hdelay
  · exact hruns rfl hchain
  · exact hruns rfl hchain
  · exact hruns rfl hchain
  · exact hruns (congrArg Host.Outcome.next (if_pos hheld)) hchain
  all_goals exact hruns rfl hchain

/-! ### Probabilities at the edges (R166)

A trial with probability 1 succeeds and one with probability 0 fails, and with nothing held the tick does nothing. -/

section Edges

variable {f : Bytes} {dest : Addr} {retx : Bool} {s : State}

theorem pldProcess_of_drop (hdrop : s.cfg.pDrop = 1) :
    pldProcess f dest retx s = pldDrop f retx (skipDraws 1 s) := by
  simp [pldProcess_eq, hdrop]

variable (hdrop : s.cfg.pDrop = 0)
include hdrop

theorem pldProcess_of_duplicate (hdup : s.cfg.pDuplicate = 1) (hheld : s.pld.held = none) :
    pldProcess f dest retx s = pldDup f dest retx (skipDraws 2 s) := by
  simp [pldProcess_eq, hdrop, hdup, tickHeld_of_none, hheld]

variable (hdup : s.cfg.pDuplicate = 0)
include hdup

theorem pldProcess_of_corrupt (hcorrupt : s.cfg.pCorrupt = 1) (hheld : s.pld.held = none) :
    pldProcess f dest retx s = pldCorrupt f dest retx (skipDraws 3 s) := by
  simp [pldProcess_eq, hdrop, hdup, hcorrupt, tickHeld_of_none, hheld]

variable (hcorrupt : s.cfg.pCorrupt = 0)
include hcorrupt

theorem pldProcess_of_reorder (hreorder : s.cfg.pReorder = 1) (hheld : s.pld.held = none) :
    pldProcess f dest retx s = pldHold f dest retx (skipDraws 4 s) := by
  simp [pldProcess_eq, hdrop, hdup, hcorrupt, hreorder, hheld]

variable (hreorder : s.cfg.pReorder = 0)
include hreorder

theorem pldProcess_of_delay (hdelay : s.cfg.pDelay = 1) (hheld : s.pld.held = none) :
    pldProcess f dest retx s = pldDelay f dest retx (skipDraws 5 s) := by
  have htick : tickHeld (pldDelay f dest retx (skipDraws 5 s)) = _ := tickHeld_of_none hheld
  simp [pldProcess_eq, hdrop, hdup, hcorrupt, hreorder, hdelay, hheld, htick]

theorem pldProcess_of_pass (hdelay : s.cfg.pDelay = 0) (hheld : s.pld.held = none) :
    pldProcess f dest retx s = pldPass f dest retx (skipDraws 5 s) := by
  simp [pldProcess_eq, hdrop, hdup, hcorrupt, hreorder, hdelay, tickHeld_of_none, hheld]

end Edges

/-- Settles O26: each clause fixes the branch, and the branch's update of the state says the rest. -/
theorem edgeProbabilitiesFixTheBranch : Obligations.EdgeProbabilitiesFixTheBranch := by
  intro f dest retx s
  refine ⟨pldProcess f dest retx s, rfl, ?_, ?_, ?_, ?_, ?_, ?_⟩
  · intro hdrop
    rw [pldProcess_of_drop hdrop]
    exact ⟨rfl, rfl, rfl⟩
  · intro hdrop hdup hheld hopen
    rw [pldProcess_of_duplicate hdrop hdup hheld, pldDup_eq]
    exact ⟨sentSR_of_open hopen, rfl⟩
  · intro hdrop hdup hcorrupt hheld hopen
    rw [pldProcess_of_corrupt hdrop hdup hcorrupt hheld, pldCorrupt_eq]
    exact ⟨sentSR_of_open hopen, rfl⟩
  · intro hdrop hdup hcorrupt hreorder hheld
    rw [pldProcess_of_reorder hdrop hdup hcorrupt hreorder hheld]
    exact ⟨rfl, rfl⟩
  · intro hdrop hdup hcorrupt hreorder hdelay hheld
    rw [pldProcess_of_delay hdrop hdup hcorrupt hreorder hdelay hheld, pldDelay_eq]
    exact ⟨rfl, List.length_append⟩
  · intro hdrop hdup hcorrupt hreorder hdelay hheld hopen
    rw [pldProcess_of_pass hdrop hdup hcorrupt hreorder hdelay hheld, pldPass_eq]
    exact ⟨sentSR_of_open hopen, rfl, rfl⟩

/-! ## The frame of `PLD.SUBMIT` (R42, R150)

What a submission adds to `chan.SR` and to the log is counted branch by branch; the tick behind a branch adds its own. -/

/-- `t` comes from `s` by transmitting frames and by writing between `lo` and `hi` records to the sender's log. -/
structure Appends (lo hi : Nat) (s t : State) : Prop where
  chanSR : ∃ fs, t.chanSR = sentSR s fs
  logS : ∃ l, t.logS = s.logS ++ l ∧ lo ≤ l.length ∧ l.length ≤ hi

namespace Appends

variable {lo hi lo' hi' : Nat} {s t u : State}

theorem mono (h : Appends lo hi s t) (hlo : lo' ≤ lo) (hhi : hi ≤ hi') : Appends lo' hi' s t := by
  obtain ⟨hchan, l, hlog, hmin, hmax⟩ := h
  exact ⟨hchan, l, hlog, hlo.trans hmin, hmax.trans hhi⟩

theorem trans (hst : Appends lo hi s t) (htu : Appends lo' hi' t u) (hsnd : t.snd = s.snd) :
    Appends (lo + lo') (hi + hi') s u := by
  obtain ⟨⟨fs, hfs⟩, l, hl, hlmin, hlmax⟩ := hst
  obtain ⟨⟨gs, hgs⟩, r, hr, hrmin, hrmax⟩ := htu
  refine ⟨⟨fs ++ gs, hgs.trans (sentSR_of_sentSR hsnd hfs gs)⟩, l ++ r, by rw [hr, hl, List.append_assoc], ?_, ?_⟩
  all_goals rw [List.length_append]; omega

theorem of_skipDraws {n : Nat} (h : Appends lo hi (skipDraws n s) t) : Appends lo hi s t := ⟨h.chanSR, h.logS⟩

/-- Transmissions and one record. -/
theorem one {fs : List Bytes} {r : LogRec} (hchan : t.chanSR = sentSR s fs) (hlog : t.logS = s.logS ++ [r]) :
    Appends 1 1 s t := ⟨⟨fs, hchan⟩, [r], hlog, le_rfl, le_rfl⟩

theorem refl (s : State) : Appends 0 0 s s := ⟨⟨[], sentSR_nil.symm⟩, [], (List.append_nil _).symm, le_rfl, le_rfl⟩

end Appends

section Submit

variable (f : Bytes) (dest : Addr) (retx : Bool) (ty : FrameType) (s : State)

theorem appends_pldDrop : Appends 1 1 s (pldDrop f retx s) := .one sentSR_nil.symm rfl

theorem appends_pldDup : Appends 1 1 s (pldDup f dest retx s) := by
  rw [pldDup_eq]
  exact .one rfl rfl

theorem appends_pldCorrupt : Appends 1 1 s (pldCorrupt f dest retx s) := by
  rw [pldCorrupt_eq]
  exact .one rfl rfl

theorem appends_pldHold : Appends 1 1 s (pldHold f dest retx s) := .one sentSR_nil.symm rfl

theorem appends_pldDelay : Appends 1 1 s (pldDelay f dest retx s) := .one sentSR_nil.symm rfl

theorem appends_pldPass : Appends 1 1 s (pldPass f dest retx s) := by
  rw [pldPass_eq]
  exact .one rfl rfl

theorem appends_pldBypass : Appends 1 1 s (pldBypass f dest s) := by
  rw [pldBypass_eq]
  exact .one rfl rfl

theorem appends_tickHeld : Appends 0 1 s (tickHeld s) := by
  cases hheld : s.pld.held with
  | none =>
    rw [tickHeld_of_none hheld]
    exact (Appends.refl s).mono le_rfl zero_le_one
  | some h =>
    obtain hbound | hbound := Nat.lt_or_ge (s.pld.wait + 1) s.cfg.reorderMaxDelay
    · rw [tickHeld_of_lt hheld hbound]
      exact ⟨(Appends.refl s).chanSR, [], (List.append_nil _).symm, le_rfl, zero_le_one⟩
    · rw [tickHeld_of_le hheld hbound]
      exact (Appends.one rfl rfl).mono zero_le_one le_rfl

/-- A branch behind its draws, then the tick. -/
theorem appends_tickHeld_of_branch {n : Nat} {t : State} (hbranch : Appends 1 1 (skipDraws n s) t)
    (hsnd : t.snd = (skipDraws n s).snd) : Appends 1 2 s (tickHeld t) :=
  (hbranch.trans (appends_tickHeld t) hsnd).of_skipDraws

theorem appends_pldProcess : Appends 1 2 s (pldProcess f dest retx s) := by
  rw [pldProcess_eq]
  split_ifs
  · exact (appends_pldDrop ..).of_skipDraws.mono le_rfl one_le_two
  · exact appends_tickHeld_of_branch s (appends_pldDup ..) (pldDup_snd ..)
  · exact appends_tickHeld_of_branch s (appends_pldCorrupt ..) (pldCorrupt_snd ..)
  · exact (appends_pldHold ..).of_skipDraws.mono le_rfl one_le_two
  · exact appends_tickHeld_of_branch s (appends_pldDelay ..) (pldDelay_snd ..)
  · exact appends_tickHeld_of_branch s (appends_pldPass ..) (pldPass_snd ..)
  · exact appends_tickHeld_of_branch s (appends_pldDelay ..) (pldDelay_snd ..)
  · exact appends_tickHeld_of_branch s (appends_pldPass ..) (pldPass_snd ..)

theorem appends_pldSubmit : Appends 1 2 s (pldSubmit f ty dest retx s) := by
  unfold pldSubmit
  split_ifs
  · exact appends_pldProcess f dest retx s
  · exact (appends_pldBypass f dest s).mono le_rfl one_le_two

end Submit

/-- Settles O27: the registers by the injector's frame lemmas, the channel and the log by `Appends`. -/
theorem submitTouchesOnlyTheInjector : Obligations.SubmitTouchesOnlyTheInjector := by
  intro f ty dest retx s t h
  cases h
  obtain ⟨⟨fs, hchan⟩, hlog⟩ := appends_pldSubmit f dest retx ty s
  refine ⟨pldSubmit_snd .., pldSubmit_rcv .., pldSubmit_cfg .., pldSubmit_cntR .., pldSubmit_chanRS .., pldSubmit_src ..,
    pldSubmit_sink .., pldSubmit_logR .., pldSubmit_sumS .., pldSubmit_sumR .., pldSubmit_now .., pldSubmit_result ..,
    pldSubmit_sched .., pldSubmit_segmentsSent .., pldSubmit_retxTimeout .., pldSubmit_retxFast ..,
    pldSubmit_dupAcks .., ?_, hlog⟩
  exact hchan ▸ exists_sentSR_eq_append s fs

end Sys2Proof.Proofs.Injector

namespace Sys2Proof.Proofs.Sender

open Sys2Proof Sys2Proof.Machine Sys2Proof.Proofs.Scope Sys2Proof.Proofs.StateFamily Sys2Proof.Proofs.Guards
  Sys2Proof.Proofs.Encoding

/-! ## Rules that submit a frame (R184, R188, R193, R195, R197)

A submission leaves the sender's registers alone, so what a rule writes behind it is an update of the registers
before. -/

section Submissions

variable (s : State)

theorem setSndPhase_pldSubmit (f : Bytes) (ty : FrameType) (dest : Addr) (retx : Bool) (ph : SndPhase) :
    setSndPhase ph (pldSubmit f ty dest retx s) =
      (pldSubmit f ty dest retx s).withSnd { s.snd with phase := ph } := by
  rw [setSndPhase, pldSubmit_snd]

theorem sOpen_eq : sOpen s =
    (pldSubmit (mkFrame (sOpenRegs s) .syn s.cfg.isnS 0 []) .syn s.cfg.sPeer false (sOpenRegs s)).withSnd
      { (sOpenRegs s).snd with phase := .synSent } := setSndPhase_pldSubmit ..

theorem sHsack_eq : sHsack s =
    (pldSubmit (mkFrame s .ack s.snd.base s.snd.rcvNxt []) .ack s.cfg.sPeer false s).withSnd
      { s.snd with phase := .dataTransfer } := setSndPhase_pldSubmit ..

theorem sFin_eq : sFin s =
    (pldSubmit (mkFrame s .fin (endSeq s) s.snd.rcvNxt []) .fin s.cfg.sPeer false s).withSnd
      { s.snd with finAcked := false, phase := .finWait } := by
  simp only [sFin, pldSubmit_snd]

/-- The final `ACK` is submitted before the counters are emitted (R197, R286). -/
theorem sRxPeerfin_eq (p : Packet) : sRxPeerfin p s =
    let t := pldSubmit (mkFrame s .ack (endSeq s + 1) (inc32 p.seq.toNat) []) .ack s.cfg.sPeer false s
    (t.withSumS (s.sumS ++ [t.cntS])).withSnd { s.snd with chanOpen := false, phase := .closed } := by
  simp only [sRxPeerfin, pldSubmit_snd, pldSubmit_sumS]

theorem karn_eq_map (a : Nat) (t : Option Timed) :
    karn a t = t.map fun m => if m.done = false ∧ a < m.last then { m with valid := false } else m := by
  cases t with
  | none => rfl
  | some t =>
    simp only [karn, Option.map_some]
    split_ifs <;> rfl

theorem sFastretx_of_sent {a : Nat} (hbase : s.snd.base ≤ a) (hend : a < endSeq s) (hmax : a < s.snd.max) :
    sFastretx a s =
      (pldSubmit (dataFrame s a) .data s.cfg.sPeer true (s.withCntS { s.cntS with
        segmentsSent := s.cntS.segmentsSent + 1
        retxFast := s.cntS.retxFast + 1 })).withSnd
        { s.snd with outq := markResent a s.now s.snd.outq, timed := karn a s.snd.timed } := by
  have hsent : s.snd.base ≤ a ∧ a < endSeq s ∧ a < s.snd.max := ⟨hbase, hend, hmax⟩
  simp only [sFastretx, if_pos hsent, pldSubmit_snd, pldSubmit_now, State.withCntS_snd, State.withCntS_now]

end Submissions

/-- Settles O28: the two commands have the same guard and run `S.OPEN`. -/
theorem openSubmitsTheSyn : Obligations.OpenSubmitsTheSyn := by
  intro s hidle hlegal f s1
  refine ⟨_, rfl, congrArg Host.Outcome.next ?_, congrArg Host.Outcome.next ?_⟩
  · exact (if_pos ⟨hidle, hlegal⟩).trans (sOpen_eq s)
  · exact ((if_pos hidle).trans (if_pos hlegal)).trans (sOpen_eq s)

/-- Settles O30: under their guards the two rules are what they write. -/
theorem synackThenHandshakeAck : Obligations.SynackThenHandshakeAck := fun _ s =>
  ⟨fun hphase hsynack => congrArg Host.Outcome.next (if_pos ⟨hphase, hsynack⟩),
    fun hphase => ⟨_, rfl, congrArg Host.Outcome.next ((if_pos hphase).trans (sHsack_eq s))⟩⟩

/-- Settles O37: by the guard of R193 and its negation. -/
theorem fastRetransmitResendsOneSegment : Obligations.FastRetransmitResendsOneSegment := by
  refine fun a s => ⟨fun hbase hend hmax => ?_, fun hnot => congrArg Host.Outcome.next (if_neg ?_)⟩
  · rw [← karn_eq_map]
    exact ⟨_, rfl, congrArg Host.Outcome.next (sFastretx_of_sent s hbase hend hmax)⟩
  · rintro ⟨hbase, hend, hmax⟩
    unfold endSeq at hend
    omega

/-- Settles O39: each of the three rules under its guard. -/
theorem teardownClosesTheSender : Obligations.TeardownClosesTheSender := fun p s =>
  ⟨fun hphase hacked => ⟨_, rfl, congrArg Host.Outcome.next
      ((if_pos ((sFinEnabled_iff s).2 ⟨hphase, hacked⟩)).trans (sFin_eq s))⟩,
    fun hphase hunacked hack hnum => congrArg Host.Outcome.next
      (if_pos ⟨hphase, hack, (finAckMatches_iff p s).2 ⟨hunacked, hnum⟩⟩),
    fun hphase hacked hfin => ⟨_, rfl, congrArg Host.Outcome.next
      ((if_pos ⟨hphase, hfin, hacked⟩).trans (sRxPeerfin_eq s p))⟩⟩

/-! ## Acknowledgements and the timeout (R190, R192, R194) -/

/-- Settles O34: by the two comparisons of R190, each of which is the guard of the rule it selects. -/
theorem ackIsForwardOrStale : Obligations.AckIsForwardOrStale := by
  intro p s hphase hack a
  have hrun : exec (.sRxAck p) s = .next (sRxAck p s) := congrArg Host.Outcome.next (if_pos ⟨hphase, hack⟩)
  rw [hrun]
  refine ⟨fun hmax => congrArg _ (if_pos hmax), fun hmax huna => ⟨sAckFwd a s, ?_, ?_⟩,
    fun hmax huna => ⟨sAckStale a s, ?_, ?_⟩⟩
  · exact congrArg _ (if_pos ⟨huna, hmax⟩)
  · exact congrArg _ ((if_neg (not_lt.2 hmax)).trans (if_pos huna))
  · exact congrArg _ (if_pos huna)
  · exact congrArg _ ((if_neg (not_lt.2 hmax)).trans (if_neg (not_lt.2 huna)))

/-- Settles O36: the threshold decides between the two updates of the table, whose reads are those of `countSet`. -/
theorem thirdStaleAckRetransmits : Obligations.ThirdStaleAckRetransmits := by
  intro a s hstale n s1
  have hrun : exec (.sAckStale a) s = .next (sAckStale a s) := congrArg Host.Outcome.next (if_pos hstale)
  rw [hrun]
  refine ⟨fun hn => congrArg _ (if_neg (not_le.2 hn)), fun hn => ⟨_, rfl, congrArg _ (if_pos hn)⟩,
    countGet_countSet_same _ a n, countGet_countSet_same _ a 0, fun b hb => ?_⟩
  exact ⟨countGet_countSet_other _ a b n hb, countGet_countSet_other _ a b 0 hb⟩

/-- Settles O38: the head of the queue past its deadline is the guard. -/
theorem timeoutPullsTheCursorBack : Obligations.TimeoutPullsTheCursorBack := fun s h q hphase houtq hdue =>
  congrArg Host.Outcome.next (if_pos ((sTimeoutEnabled_iff s).2 ⟨hphase, h, q, houtq, hdue⟩))

/-! ## The round-trip measurement (R200, R202, R203) -/

section Measurement

variable {a : Nat} {t : Timed} {h : OutSeg} {q : List OutSeg} {s : State}

/-- A running measurement is left to run (R202). -/
theorem rttArm_of_timed (htimed : s.snd.timed = some t) : rttArm s = s := by
  simp only [rttArm, htimed]

/-- With nothing outstanding there is nothing to measure (R202). -/
theorem rttArm_of_outq_nil (houtq : s.snd.outq = []) : rttArm s = s := by
  unfold rttArm
  split
  next houtq' => simp [houtq] at houtq'
  next => rfl

theorem rttArm_of_outq_cons (htimed : s.snd.timed = none) (houtq : s.snd.outq = h :: q) :
    rttArm s = s.withSnd { s.snd with
      timed := some ⟨h.seq + h.len, h.tSent, !h.retx, false⟩
      cycleEnd := s.snd.nxt } := by
  simp only [rttArm, htimed, houtq]

theorem rttUpdate_eq (x : Time) (s : State) : rttUpdate x s =
    let e := 7 / 8 * s.snd.ertt + 1 / 8 * x
    s.withSnd { s.snd with ertt := e, drtt := 3 / 4 * s.snd.drtt + 1 / 4 * |x - e| } := by
  have hsmooth : (1 : Rat) - Config.alpha = 7 / 8 := by norm_num [Config.alpha]
  have hdeviation : (1 : Rat) - Config.beta = 3 / 4 := by norm_num [Config.beta]
  simp only [rttUpdate, hsmooth, hdeviation]

/-- The estimates after the acknowledgement of `a`: a valid measurement gives its one sample (R200, R203). -/
def Sampled (a : Nat) (t : Timed) (s : State) (e d : Time) : Prop :=
  if t.done = false ∧ t.last ≤ a ∧ t.valid = true then
    e = 7 / 8 * s.snd.ertt + 1 / 8 * (s.now - t.t0) ∧ d = 3 / 4 * s.snd.drtt + 1 / 4 * |s.now - t.t0 - e|
  else e = s.snd.ertt ∧ d = s.snd.drtt

/-- The sample writes the two estimates and marks the measurement as done (R203). -/
theorem rttSample_eq (htimed : s.snd.timed = some t) : ∃ e d, Sampled a t s e d ∧
    rttSample a t s = s.withSnd { s.snd with
      ertt := e, drtt := d, timed := some { t with done := t.done || decide (t.last ≤ a) } } := by
  unfold Sampled
  by_cases hacked : t.done = false ∧ t.last ≤ a
  · have hdone : (t.done || decide (t.last ≤ a)) = true := by simp [hacked.2]
    rw [hdone]
    simp only [rttSample, if_pos hacked, rttUpdate_eq]
    cases hvalid : t.valid with
    | true =>
      simp only [hacked, true_and, if_true]
      exact ⟨_, _, ⟨rfl, rfl⟩, rfl⟩
    | false => exact ⟨s.snd.ertt, s.snd.drtt, by simp, rfl⟩
  · have hdone : (t.done || decide (t.last ≤ a)) = t.done := by
      cases hd : t.done with
      | true => rfl
      | false => simpa [hd] using hacked
    refine ⟨s.snd.ertt, s.snd.drtt, ?_, ?_⟩
    · rw [if_neg fun h => hacked ⟨h.1, h.2.1⟩]
      exact ⟨rfl, rfl⟩
    · rw [hdone, ← htimed]
      exact if_neg hacked

/-- The measurement and the cycle's end once none is left running: the next one is on the head of the queue (R202). -/
def Armed (x : Snd) (tm : Option Timed) (c : Nat) : Prop :=
  match x.outq with
  | [] => tm = none ∧ c = x.cycleEnd
  | h :: _ => tm = some ⟨h.seq + h.len, h.tSent, !h.retx, false⟩ ∧ c = x.nxt

theorem rttArm_eq (htimed : s.snd.timed = none) : ∃ tm c, Armed s.snd tm c ∧
    rttArm s = s.withSnd { s.snd with timed := tm, cycleEnd := c } := by
  unfold Armed
  cases houtq : s.snd.outq with
  | nil => exact ⟨none, s.snd.cycleEnd, ⟨rfl, rfl⟩, by rw [rttArm_of_outq_nil houtq, ← htimed]; rfl⟩
  | cons h q => exact ⟨_, _, ⟨rfl, rfl⟩, rttArm_of_outq_cons htimed houtq⟩

theorem rttOnFwdAck_of_none (htimed : s.snd.timed = none) : ∃ tm c, Armed s.snd tm c ∧
    rttOnFwdAck a s = s.withSnd { s.snd with timed := tm, cycleEnd := c } := by
  simp only [rttOnFwdAck, htimed]
  exact rttArm_eq htimed

/-- A running measurement is sampled, and gives way to the next one at the cycle's end (R203). -/
theorem rttOnFwdAck_of_some (htimed : s.snd.timed = some t) : ∃ e d tm c, Sampled a t s e d ∧
    (if s.snd.cycleEnd ≤ a then Armed s.snd tm c
      else tm = some { t with done := t.done || decide (t.last ≤ a) } ∧ c = s.snd.cycleEnd) ∧
    rttOnFwdAck a s = s.withSnd { s.snd with ertt := e, drtt := d, timed := tm, cycleEnd := c } := by
  obtain ⟨e, d, hsampled, he⟩ := rttSample_eq (a := a) htimed
  simp only [rttOnFwdAck, htimed, he, rttCycle, State.withSnd_snd]
  split_ifs with hcycle
  · obtain ⟨tm, c, harmed, harm⟩ := rttArm_eq (s := s.withSnd { s.snd with ertt := e, drtt := d, timed := none }) rfl
    exact ⟨e, d, tm, c, hsampled, harmed, harm⟩
  · rw [rttArm_of_timed rfl]
    exact ⟨e, d, _, _, hsampled, ⟨rfl, rfl⟩, rfl⟩

/-- The state once a forward `ACK` has moved the window and nothing else (R191; entry 34). -/
def slid (a : Nat) (s : State) : State := s.withSnd { s.snd with
  una := a
  nxt := if s.snd.nxt < a then a else s.snd.nxt
  outq := s.snd.outq.filter fun e => decide (a < e.seq + e.len) }

theorem exec_sAckFwd_of_sent (huna : s.snd.una < a) (hmax : a ≤ s.snd.max) :
    exec (.sAckFwd a) s = .next (rttOnFwdAck a (slid a s)) := congrArg Host.Outcome.next (if_pos ⟨huna, hmax⟩)

end Measurement

/-- Settles O35: with no measurement the next one is armed; a running one is sampled, and replaced at the end of the
cycle. -/
theorem forwardAckSlidesTheWindow : Obligations.ForwardAckSlidesTheWindow := by
  intro a s huna hmax nxt outq
  rw [exec_sAckFwd_of_sent huna hmax]
  cases htimed : s.snd.timed with
  | none =>
    obtain ⟨tm, c, harmed, he⟩ := rttOnFwdAck_of_none (a := a) (s := slid a s) htimed
    exact ⟨_, _, tm, c, congrArg Host.Outcome.next he, ⟨rfl, rfl⟩, harmed⟩
  | some t =>
    obtain ⟨e, d, tm, c, hsampled, hcycle, he⟩ := rttOnFwdAck_of_some (a := a) (s := slid a s) htimed
    exact ⟨e, d, tm, c, congrArg Host.Outcome.next he, hsampled, hcycle⟩

/-! ## Polls (R185, R186, R232) -/

theorem rRxCorrupt_eq (b : Bytes) (c : Cause) (s : State) : rRxCorrupt b c s = { s with
    logR := s.logR ++ [⟨.rcvbad c, s.now, none, none, b.length, none⟩]
    cntR := { s.cntR with segmentsCorrupt :=
      if s.rcv.phase = .listen then s.cntR.segmentsCorrupt else s.cntR.segmentsCorrupt + 1 } } := by
  simp only [rRxCorrupt, takeAnomaly]
  split_ifs <;> rfl

/-- Settles O32: the receiver's count is the one branch of the four rules. -/
theorem corruptOrUnexpectedIsDropped : Obligations.CorruptOrUnexpectedIsDropped := fun b c _ s =>
  ⟨rfl, congrArg Host.Outcome.next (rRxCorrupt_eq b c s), rfl, rfl⟩

/-- The index of a poll on either channel (R67, R68; entry 12). -/
theorem pollIndex_eq {pick i : Nat} (hfifo : Config.channel = .fifoReliable → i = 0)
    (hunordered : Config.channel = .unorderedLossy → i = pick) : pollIndex pick = i := by
  cases hchannel : Config.channel with
  | unorderedLossy => rw [pollIndex_of_unorderedLossy hchannel, hunordered hchannel]
  | fifoReliable =>
    rw [hfifo hchannel]
    cases pick with
    | zero => rfl
    | succ n => simp only [pollIndex, hchannel]

section Rows

variable (ty : FrameType) (p : Packet)

theorem sRule_synSent : sRule .synSent ty p = if ty = .synack then .sRxSynack p else .sRxDiscard p := by
  cases ty <;> rfl

theorem sRule_dataTransfer : sRule .dataTransfer ty p = if ty = .ack then .sRxAck p else .sRxDiscard p := by
  cases ty <;> rfl

theorem sRule_finWait : sRule .finWait ty p =
    if ty = .ack then .sRxFinack p else if ty = .fin then .sRxPeerfin p else .sRxDiscard p := by
  cases ty <;> rfl

end Rows

/-- The row of `FIN_WAIT` in R185: an `ACK` and a `FIN` each act under the condition of R196 and R197 alone. -/
theorem exec_sRule_finWait (p : Packet) (s : State) (hphase : s.snd.phase = .finWait) :
    if classify p = .ack ∧ s.snd.finAcked = false ∧ p.ackNum.toNat = s.snd.base + s.cfg.srcLen + 1 then
      exec (sRule .finWait (classify p) p) s = .next { s with snd := { s.snd with finAcked := true } }
    else if classify p = .fin ∧ s.snd.finAcked = true then
      ∃ t, exec (.sRxPeerfin p) s = .next t ∧ exec (sRule .finWait (classify p) p) s = .next t
    else exec (sRule .finWait (classify p) p) s = .next s := by
  rw [sRule_finWait]
  by_cases hack : classify p = .ack
  · rw [if_pos hack]
    split_ifs with hmatch hpeer
    · exact congrArg Host.Outcome.next (if_pos ⟨hphase, hack, (finAckMatches_iff p s).2 hmatch.2⟩)
    · simp [hack] at hpeer
    · exact exec_of_not_enabled fun he => hmatch ⟨hack, (finAckMatches_iff p s).1 he.2.2⟩
  · rw [if_neg hack, if_neg fun h => hack h.1]
    by_cases hfin : classify p = .fin
    · rw [if_pos hfin]
      split_ifs with hpeer
      · exact ⟨_, rfl, rfl⟩
      · exact exec_of_not_enabled fun he => hpeer he.2
    · rw [if_neg hfin, if_neg fun h => hfin h.1]
      rfl

section Poll

variable {pick : Nat} {b : Bytes} {s : State} (hpolls : sndPolls s.snd.phase = true)
  (hb : s.chanRS[pollIndex pick]? = some b)
include hpolls hb

/-- A poll hands the datagram it removes to the sender (R68, R185). -/
theorem exec_sRx_of_polls : exec (.sRx pick) s =
    .next (pollDatagram .rs b (s.withChanRS (s.chanRS.eraseIdx (pollIndex pick)))) := by
  simp only [exec, execSRx, sRx, chanPoll, chanGet, pollDatagram, State.withChanRS_snd, hpolls, hb, if_true]
  rfl

/-- A valid datagram is logged, and the rule of the table runs on the state without it (R185). -/
theorem exec_sRx_of_ok {p : Packet} (hp : decodeFrame s.cfg.payloadMax b = .ok p) : exec (.sRx pick) s =
    exec (sRule s.snd.phase (classify p) p)
      (logSnd (packetRec s.now p) (s.withChanRS (s.chanRS.eraseIdx (pollIndex pick)))) := by
  rw [exec_sRx_of_polls hpolls hb, classify_of_decodeFrame hp]
  exact poll_rs_of_ok (s := s.withChanRS _) hpolls hp

end Poll

/-- Settles O31: a poll is the rule of the table (`sRule`) on the state without the datagram and with its record; the
table is read off phase by phase. -/
theorem senderPollRunsTheTableRule : Obligations.SenderPollRunsTheTableRule := by
  intro pick i b s hfifo hunordered hb s0
  obtain rfl := pollIndex_eq hfifo hunordered
  refine ⟨fun c hc hpolls => ?_, ?_, fun hphase => ?_⟩
  · have hpolls := (sndPolls_iff _).2 hpolls
    rw [exec_sRx_of_polls hpolls hb]
    exact poll_rs_of_error (s := s0) hpolls hc
  · intro p hp s1
    have hrule (ph : SndPhase) (hphase : s.snd.phase = ph) (hpolls : sndPolls ph = true) :
        exec (.sRx pick) s = exec (sRule ph (classify p) p) s1 := by
      subst hphase
      exact exec_sRx_of_ok hpolls hb hp
    refine ⟨fun hphase => ?_, fun hphase => ?_, fun hphase => ?_⟩ <;> rw [hrule _ hphase rfl]
    · rw [sRule_synSent]
      split_ifs with hsynack
      · exact congrArg Host.Outcome.next (if_pos ⟨hphase, hsynack⟩)
      · rfl
    · rw [sRule_dataTransfer]
      split_ifs with hack
      · exact ⟨_, rfl, rfl⟩
      · rfl
    · exact exec_sRule_finWait p s1 hphase
  · refine exec_of_not_enabled fun he => ?_
    obtain hphase | hphase | hphase := hphase <;> simp [enabled, sndPolls, hphase] at he

/-! ## `S.SEND` (R189, R202) -/

/-- The state once the segment at the cursor is submitted and recorded, before the estimator (R189). -/
def queued (s : State) : State :=
  let q := s.snd.nxt
  let n := segLen s q
  let retx := decide (q < s.snd.max)
  (pldSubmit (dataFrame s q) .data s.cfg.sPeer retx (s.withCntS (sSendCount retx s.cntS))).withSnd { s.snd with
    outq := s.snd.outq ++ [⟨q, n, s.now, retx⟩]
    nxt := q + n
    max := Nat.max s.snd.max (q + n) }

theorem sSend_eq (s : State) : sSend s = rttArm (queued s) := by
  simp only [sSend, queued, pldSubmit_snd, pldSubmit_now, State.withCntS_snd, State.withCntS_now]

theorem sSendCount_eq (retx : Bool) (c : CntS) : sSendCount retx c = { c with
    segmentsSent := c.segmentsSent + 1
    retxTimeout := c.retxTimeout + if retx then 1 else 0 } := by
  unfold sSendCount
  split_ifs <;> rfl

/-- Settles O33: the queue behind the segment has a head, so the estimator is armed unless a measurement runs. -/
theorem sendTransmitsTheNextSegment : Obligations.SendTransmitsTheNextSegment := by
  intro s hphase hbase hoff q n hfit retx f outq
  have henabled : sSendEnabled s = true := by
    simp only [sSendEnabled, Bool.and_eq_true, decide_eq_true_eq]
    exact ⟨⟨⟨hphase, hbase⟩, hoff⟩, hfit⟩
  have hrun : exec .sSend s = .next (rttArm (queued s)) :=
    congrArg Host.Outcome.next ((if_pos henabled).trans (sSend_eq s))
  rw [hrun, ← sSendCount_eq]
  refine ⟨_, rfl, congrArg Host.Outcome.next ?_⟩
  obtain ⟨h, rest, hout⟩ : ∃ h rest, outq = h :: rest := List.exists_cons_of_ne_nil (by simp [outq])
  cases htimed : s.snd.timed with
  | none =>
    have hhead : outq.head? = some h := congrArg List.head? hout
    rw [hhead, rttArm_of_outq_cons (s := queued s) htimed hout]
    rfl
  | some t =>
    have hkept : queued s = (queued s).withSnd { (queued s).snd with timed := some t } := by
      rw [← htimed]
      rfl
    rw [rttArm_of_timed (s := queued s) htimed, hkept]
    rfl

/-! ## Times and the estimator (R200, R206, R275) -/

/-- `timeSafe` as a property of the sender's registers under a clock: no recorded time lies after it, and the estimates
are not negative. -/
def timesOk (now : Time) (x : Snd) : Prop :=
  0 ≤ x.ertt ∧ 0 ≤ x.drtt ∧ (∀ e ∈ x.outq, e.tSent ≤ now) ∧ ∀ t, x.timed = some t → t.t0 ≤ now

theorem timeSafe_iff (s : State) : timeSafe s ↔ 0 ≤ s.now ∧ timesOk s.now s.snd := .rfl

theorem timesOk_mono {x : Snd} {n m : Time} (h : timesOk n x) (hnm : n ≤ m) : timesOk m x := by
  obtain ⟨hertt, hdrtt, houtq, htimed⟩ := h
  exact ⟨hertt, hdrtt, fun e he => (houtq e he).trans hnm, fun t ht => (htimed t ht).trans hnm⟩

/-- The initial estimates are not negative whatever they are (R8). -/
theorem timesOk_reset (n : Time) : timesOk n Snd.reset := ⟨le_max_left _ _, le_max_left _ _, nofun, nofun⟩

section Measurement

variable {a : Nat} {t : Timed} {tm : Option Timed} {c : Nat} {e d n : Time} {x : Snd} {s : State}

/-- A measurement that is armed starts with a segment of the queue (R202). -/
theorem Armed.t0_le (h : Armed x tm c) (houtq : ∀ e ∈ x.outq, e.tSent ≤ n) : ∀ t, tm = some t → t.t0 ≤ n := by
  rintro t rfl
  unfold Armed at h
  split at h
  next => exact absurd h.1 nofun
  next e q hq =>
    cases h.1
    exact houtq e (by simp [hq])

/-- A sample that is not negative keeps both estimates so (R200). -/
theorem Sampled.nonneg (h : Sampled a t s e d) (hertt : 0 ≤ s.snd.ertt) (hdrtt : 0 ≤ s.snd.drtt)
    (ht : t.t0 ≤ s.now) : 0 ≤ e ∧ 0 ≤ d := by
  unfold Sampled at h
  split_ifs at h
  · obtain ⟨rfl, rfl⟩ := h
    have hsample : 0 ≤ s.now - t.t0 := sub_nonneg.2 ht
    exact ⟨by positivity, by positivity⟩
  · obtain ⟨rfl, rfl⟩ := h
    exact ⟨hertt, hdrtt⟩

theorem timesOk_rttArm (h : timesOk n s.snd) : timesOk n (rttArm s).snd := by
  cases htimed : s.snd.timed with
  | some t => rwa [rttArm_of_timed htimed]
  | none =>
    obtain ⟨hertt, hdrtt, houtq, -⟩ := h
    obtain ⟨tm, c, harmed, he⟩ := rttArm_eq htimed
    rw [he]
    exact ⟨hertt, hdrtt, houtq, harmed.t0_le houtq⟩

theorem timesOk_rttOnFwdAck (h : timesOk s.now s.snd) : timesOk s.now (rttOnFwdAck a s).snd := by
  obtain ⟨hertt, hdrtt, houtq, hold⟩ := h
  cases htimed : s.snd.timed with
  | none =>
    obtain ⟨tm, c, harmed, he⟩ := rttOnFwdAck_of_none (a := a) htimed
    rw [he]
    exact ⟨hertt, hdrtt, houtq, harmed.t0_le houtq⟩
  | some t =>
    obtain ⟨e, d, tm, c, hsampled, hcycle, he⟩ := rttOnFwdAck_of_some (a := a) htimed
    obtain ⟨hertt', hdrtt'⟩ := hsampled.nonneg hertt hdrtt (hold t htimed)
    rw [he]
    refine ⟨hertt', hdrtt', houtq, ?_⟩
    split_ifs at hcycle
    · exact hcycle.t0_le houtq
    · rintro u rfl
      cases hcycle.1
      exact hold t htimed

end Measurement

/-- A segment that is resent is stamped with the time of the step (R193). -/
theorem timesOk_sFastretx {s : State} {n : Time} (a : Nat) (hn : s.now ≤ n) (h : timesOk n s.snd) :
    timesOk n (sFastretx a s).snd := by
  by_cases hsent : s.snd.base ≤ a ∧ a < endSeq s ∧ a < s.snd.max
  · obtain ⟨hertt, hdrtt, houtq, htimed⟩ := h
    obtain ⟨hbase, hend, hmax⟩ := hsent
    rw [sFastretx_of_sent s hbase hend hmax, karn_eq_map]
    refine ⟨hertt, hdrtt, fun e he => ?_, fun t ht => ?_⟩
    · obtain ⟨e, hmem, rfl⟩ := List.mem_map.1 he
      split_ifs
      · exact hn
      · exact houtq e hmem
    · obtain ⟨m, hm, rfl⟩ := Option.map_eq_some_iff.1 ht
      split_ifs <;> exact htimed m hm
  · rwa [show sFastretx a s = s from if_neg hsent]

section Rules

variable {s : State} (h : timesOk s.now s.snd)
include h

/-- An acknowledged segment leaves the queue with its time (R191). -/
theorem timesOk_sAckFwd (a : Nat) : timesOk s.now (sAckFwd a s).snd := by
  obtain ⟨hertt, hdrtt, houtq, htimed⟩ := h
  exact timesOk_rttOnFwdAck (s := slid a s)
    ⟨hertt, hdrtt, fun e he => houtq e (List.mem_of_mem_filter he), htimed⟩

/-- A segment is recorded with the time of the step (R189). -/
theorem timesOk_sSend : timesOk s.now (sSend s).snd := by
  obtain ⟨hertt, hdrtt, houtq, htimed⟩ := h
  rw [sSend_eq]
  refine timesOk_rttArm ⟨hertt, hdrtt, fun e he => ?_, htimed⟩
  rcases List.mem_append.1 he with he | he
  · exact houtq e he
  · rw [List.mem_singleton.1 he]

theorem timesOk_sAckStale (a : Nat) : timesOk s.now (sAckStale a s).snd := by
  unfold sAckStale
  dsimp only
  split_ifs
  · exact timesOk_sFastretx a le_rfl h
  · exact h

/-- No rule of the sender records a time after the clock of its step or makes an estimate negative. -/
theorem timesOk_of_sndRule {t : State} (hr : SndRule s t) : timesOk s.now t.snd := by
  have hsame {x : Snd} (hertt : x.ertt = s.snd.ertt) (hdrtt : x.drtt = s.snd.drtt) (houtq : x.outq = s.snd.outq)
      (htimed : x.timed = s.snd.timed) : timesOk s.now x := by
    rwa [timesOk, hertt, hdrtt, houtq, htimed]
  cases hr with
  | nothing => exact h
  | injected snd => rwa [snd]
  | opened =>
    rw [sOpen_eq]
    exact timesOk_reset s.now
  | configError | synack | finack => exact hsame rfl rfl rfl rfl
  | hsack => rw [sHsack_eq]; exact hsame rfl rfl rfl rfl
  | send => exact timesOk_sSend h
  | ackFwd a => exact timesOk_sAckFwd h a
  | ackStale a => exact timesOk_sAckStale h a
  | fastretx a => exact timesOk_sFastretx a le_rfl h
  | timeout => exact ⟨h.1, h.2.1, nofun, nofun⟩
  | fin => rw [sFin_eq]; exact hsame rfl rfl rfl rfl
  | peerfin p => rw [sRxPeerfin_eq]; exact hsame rfl rfl rfl rfl

theorem timesOk_exec {i : Instr} {t : State} (hi : exec i s = .next t) : timesOk s.now t.snd := by
  obtain rfl | rfl | ⟨w, -, rfl⟩ | ⟨c, l, hr⟩ | ⟨⟨hsnd, -⟩, -⟩ := exec_cases hi
  · exact timesOk_reset s.now
  · exact h
  · rwa [cfgWrite_snd]
  · exact timesOk_of_sndRule (s := polled c l s) h hr
  · rwa [hsnd]

theorem timesOk_pollDatagram (d : Dir) (b : Bytes) : timesOk s.now (pollDatagram d b s).snd := by
  cases d with
  | sr =>
    obtain ⟨hsnd, -⟩ := ownerLaw_pollDatagram (s := s) .sr b
    rwa [(hsnd nofun).1]
  | rs =>
    obtain ⟨l, hr⟩ := sndRule_pollDatagram s b
    exact timesOk_of_sndRule (s := polled _ l s) h hr

end Rules

/-- A datagram handed to an engine takes no time (R275). -/
theorem pollDatagram_now (d : Dir) (b : Bytes) (s : State) : (pollDatagram d b s).now = s.now := by
  obtain ⟨-, -, -, -, hnow, -⟩ := ownerLaw_pollDatagram (s := s) d b
  exact hnow (by cases d <;> nofun)

theorem timeSafe_exec {i : Instr} {s t : State} (hs : timeSafe s) (h : exec i s = .next t) : timeSafe t :=
  ⟨hs.1.trans (exec_now_le h), timesOk_mono (timesOk_exec hs.2 h) (exec_now_le h)⟩

theorem timeSafe_pollDatagram {s : State} (hs : timeSafe s) (d : Dir) (b : Bytes) : timeSafe (pollDatagram d b s) := by
  rw [timeSafe_iff, pollDatagram_now]
  exact ⟨hs.1, timesOk_pollDatagram hs.2 d b⟩

/-- Settles O56: what a step leaves in the sender's registers is in order at the time it began, and the clock does not
move back. -/
theorem stepKeepsTimesInOrder : Obligations.StepKeepsTimesInOrder := by
  intro s t hs h
  obtain rfl | ⟨slot, rest, -, hrun⟩ := step_cases s t h
  · exact hs
  have hu : timeSafe (s.withEnv { s.env with sched := rest }) := hs
  obtain ⟨i, -, -, hi⟩ | ⟨d, b, -, rfl⟩ := hrun
  · exact timeSafe_exec hu hi
  · exact timeSafe_pollDatagram hu d b

/-! ## The phase tables (R210, R244)

Each engine's phase is followed through its own operations; the others leave it alone (R42). What a polled datagram can
do to a phase is said once for the poll and for the frame rows. -/

/-- The operation is one that hands the receiver (`.sr`) or the sender (`.rs`) a valid datagram of a type: the engine's
poll, or the frame row of that type. -/
def handsOver (d : Dir) (ty : FrameType) (i : Instr) (s : State) : Prop :=
  (match d with
    | .sr => rPolls ty i s
    | .rs => sPolls ty i s) ∨
  ∃ w, frameRow d w ty = .ok i ∧ validAs s ty (wireBytes w)

/-- The rows of R210 that a datagram of a type takes, under the flag `s.fin_acked`. -/
inductive SndRow (acked : Bool) : FrameType → SndPhase → SndPhase → Prop
  | synack : SndRow acked .synack .synSent .established
  | fin (hacked : acked = true) : SndRow acked .fin .finWait .closed

/-- The rows of R244 that a datagram of a type takes, under a configuration. -/
inductive RcvRow (c : Cfg) : FrameType → RcvPhase → RcvPhase → Prop
  | syn (legal : receiverConfigLegal c = true) : RcvRow c .syn .listen .synRcvd
  | hsack : RcvRow c .ack .awaitAck .established
  | fin : RcvRow c .fin .established .finRcvd
  | lastack : RcvRow c .ack .lastAck .listen

section Rows

variable {i : Instr} {s : State} {ty : FrameType}

theorem SndRow.move {a b : SndPhase} (h : SndRow s.snd.finAcked ty a b) (hi : handsOver .rs ty i s) :
    sndMove i s a b := by
  cases h with
  | synack =>
    obtain hpoll | ⟨w, hw, hvalid⟩ := hi
    · exact .inl hpoll
    · cases hw
      exact .inr (.inr ⟨w, rfl, hvalid⟩)
  | fin hacked =>
    obtain hpoll | ⟨w, hw, hvalid⟩ := hi
    · exact ⟨hacked, .inl hpoll⟩
    · cases hw
      exact ⟨hacked, .inr (.inr ⟨w, rfl, hvalid⟩)⟩

theorem RcvRow.move {a b : RcvPhase} (h : RcvRow s.cfg ty a b) (hi : handsOver .sr ty i s) : rcvMove i s a b := by
  obtain hpoll | ⟨w, hw, hvalid⟩ := hi
  · cases h with
    | syn legal => exact ⟨legal, .inl hpoll⟩
    | hsack | fin => exact .inl hpoll
    | lastack => exact .inr (.inl hpoll)
  · cases h with
    | syn legal => cases hw; exact ⟨legal, .inr (.inr ⟨w, rfl, hvalid⟩)⟩
    | hsack | fin => cases hw; exact .inr (.inr ⟨w, rfl, hvalid⟩)
    | lastack => cases hw; exact .inr (.inr (.inr ⟨w, rfl, hvalid⟩))

end Rows

/-! ### What a polled datagram does to a phase -/

section Polled

variable (p : Packet) (b : Bytes) (s : State)

@[simp] theorem sRxAck_phase : (sRxAck p s).snd.phase = s.snd.phase := by
  unfold sRxAck
  split_ifs <;> simp [sRxDiscard]

theorem sDispatch_row : (sDispatch p s).snd.phase = s.snd.phase ∨
    SndRow s.snd.finAcked (classify p) s.snd.phase (sDispatch p s).snd.phase := by
  unfold sDispatch
  split
  next hph hty => rw [hph, hty]; exact .inr .synack
  next => exact .inl (sRxAck_phase p s)
  next => split_ifs <;> exact .inl rfl
  next hph hty =>
    split_ifs with hacked
    · rw [hph, hty]; exact .inr (.fin hacked)
    · exact .inl rfl
  next => exact .inl rfl

theorem sReceive_row : (sReceive b s).snd.phase = s.snd.phase ∨
    ∃ ty, validAs s ty b ∧ SndRow s.snd.finAcked ty s.snd.phase (sReceive b s).snd.phase := by
  obtain ⟨c, -, he⟩ | ⟨p, hp, he⟩ := sReceive_cases s b <;> rw [he]
  · exact .inl rfl
  · exact (sDispatch_row p (logSnd (packetRec s.now p) s)).imp_right fun hrow => ⟨_, ⟨p, hp, rfl⟩, hrow⟩

/-- `R.RX_SYN` takes its row, or raises its error flag (R233, R264). -/
theorem rRxSyn_phase : (rRxSyn p s).rcv.phase = s.rcv.phase ∨
    receiverConfigLegal s.cfg = true ∧ (rRxSyn p s).rcv.phase = .synRcvd := by
  unfold rRxSyn
  split_ifs with hlegal
  · exact .inr ⟨hlegal, rfl⟩
  · exact .inl rfl

@[simp] theorem rDataInorder_phase : (rDataInorder p s).rcv.phase = s.rcv.phase := by simp [rDataInorder]

@[simp] theorem rDataOoo_phase : (rDataOoo p s).rcv.phase = s.rcv.phase := by simp [rDataOoo]

@[simp] theorem rRxData_phase : (rRxData p s).rcv.phase = s.rcv.phase := by
  unfold rRxData
  dsimp only
  split_ifs <;> simp [rObserve]

theorem rDispatch_row : (rDispatch p s).rcv.phase = s.rcv.phase ∨
    RcvRow s.cfg (classify p) s.rcv.phase (rDispatch p s).rcv.phase := by
  unfold rDispatch
  split
  next hph hty =>
    obtain hsame | ⟨hlegal, hnew⟩ := rRxSyn_phase p s
    · exact .inl hsame
    · rw [hph, hty, hnew]; exact .inr (.syn hlegal)
  next hph hty => rw [hph, hty]; exact .inr .hsack
  next => exact .inl (rRxData_phase p s)
  next hph hty => rw [hph, hty]; exact .inr .fin
  next hph hty => rw [hph, hty]; exact .inr .lastack
  next => exact .inl rfl

theorem rReceive_row : (rReceive b s).rcv.phase = s.rcv.phase ∨
    ∃ ty, validAs s ty b ∧ RcvRow s.cfg ty s.rcv.phase (rReceive b s).rcv.phase := by
  obtain ⟨c, -, he⟩ | ⟨p, hp, he⟩ := rReceive_cases s b <;> rw [he]
  · exact .inl (by simp)
  · exact (rDispatch_row p (logRcv (packetRec s.now p) s)).imp_right fun hrow => ⟨_, ⟨p, hp, rfl⟩, hrow⟩

end Polled

/-! ### Every operation of an engine -/

/-- The sender's phase stays or moves along a row of R210. -/
def sndFollows (i : Instr) (s t : State) : Prop :=
  t.snd.phase ≠ s.snd.phase → sndMove i s s.snd.phase t.snd.phase

/-- The receiver's phase stays or moves along a row of R244. -/
def rcvFollows (i : Instr) (s t : State) : Prop :=
  t.rcv.phase ≠ s.rcv.phase → rcvMove i s s.rcv.phase t.rcv.phase

section Follows

variable {i : Instr} {s t : State}

theorem sndFollows_of_eq (h : t.snd.phase = s.snd.phase) : sndFollows i s t := fun hne => absurd h hne

theorem rcvFollows_of_eq (h : t.rcv.phase = s.rcv.phase) : rcvFollows i s t := fun hne => absurd h hne

theorem sndFollows_of_row {a b : SndPhase} (hs : s.snd.phase = a) (ht : t.snd.phase = b) (h : sndMove i s a b) :
    sndFollows i s t := fun _ => hs ▸ ht ▸ h

theorem rcvFollows_of_row {a b : RcvPhase} (hs : s.rcv.phase = a) (ht : t.rcv.phase = b) (h : rcvMove i s a b) :
    rcvFollows i s t := fun _ => hs ▸ ht ▸ h

/-- An operation behind a guard has only its enabled case to answer for (entry 4). -/
theorem sndFollows_ite {g : Prop} [Decidable g] (ht : g → sndFollows i s t) :
    sndFollows i s (if g then t else s) := by
  split_ifs with hg
  · exact ht hg
  · exact sndFollows_of_eq rfl

theorem rcvFollows_ite {g : Prop} [Decidable g] (ht : g → rcvFollows i s t) :
    rcvFollows i s (if g then t else s) := by
  split_ifs with hg
  · exact ht hg
  · exact rcvFollows_of_eq rfl

/-- A cut frame that decodes as a type is of the type its row admits (R98). -/
theorem eq_of_validAs_wireBytes {pm : Nat} {ty ty' : FrameType} {w : WireFrame} (hw : wireOk pm ty w = true)
    (h : validAs s ty' (wireBytes w)) : ty' = ty := by
  obtain ⟨p, hp, rfl⟩ := h
  simp only [wireOk, Bool.and_eq_true, beq_iff_eq] at hw
  rw [classify_of_decodeFrame hp, frameType_wireBytes, hw.1]

theorem sndFollows_frame {pm : Nat} {ty : FrameType} {w : WireFrame} (hw : wireOk pm ty w = true)
    (hi : frameRow .rs w ty = .ok i) : sndFollows i s (pollDatagram .rs (wireBytes w) s) := by
  obtain he | ⟨-, he⟩ := pollDatagram_rs s (wireBytes w) <;> rw [he]
  · exact sndFollows_of_eq rfl
  · obtain hsame | ⟨ty', hvalid, hrow⟩ := sReceive_row (wireBytes w) s
    · exact sndFollows_of_eq hsame
    · obtain rfl := eq_of_validAs_wireBytes hw hvalid
      exact fun _ => hrow.move (.inr ⟨w, hi, hvalid⟩)

theorem rcvFollows_frame {pm : Nat} {ty : FrameType} {w : WireFrame} (hw : wireOk pm ty w = true)
    (hi : frameRow .sr w ty = .ok i) : rcvFollows i s (pollDatagram .sr (wireBytes w) s) := by
  obtain he | ⟨-, he⟩ := pollDatagram_sr s (wireBytes w) <;> rw [he]
  · exact rcvFollows_of_eq rfl
  · obtain hsame | ⟨ty', hvalid, hrow⟩ := rReceive_row (wireBytes w) s
    · exact rcvFollows_of_eq hsame
    · obtain rfl := eq_of_validAs_wireBytes hw hvalid
      exact fun _ => hrow.move (.inr ⟨w, hi, hvalid⟩)

theorem sndFollows_sRx (pick : Nat) : sndFollows (.sRx pick) s (sRx pick s) := by
  obtain he | ⟨b, -, hb, he⟩ := sRx_cases s pick <;> rw [he]
  · exact sndFollows_of_eq rfl
  · obtain hsame | ⟨ty, hvalid, hrow⟩ := sReceive_row b (s.withChanRS (s.chanRS.eraseIdx (pollIndex pick)))
    · exact sndFollows_of_eq hsame
    · exact fun _ => SndRow.move hrow (.inl ⟨pick, b, rfl, hb, hvalid⟩)

theorem rcvFollows_rRx (pick : Nat) : rcvFollows (.rRx pick) s (rRx pick s) := by
  obtain he | ⟨b, -, hb, he⟩ := rRx_cases s pick <;> rw [he]
  · exact rcvFollows_of_eq rfl
  · obtain hsame | ⟨ty, hvalid, hrow⟩ := rReceive_row b (s.withChanSR (s.chanSR.eraseIdx (pollIndex pick)))
    · exact rcvFollows_of_eq hsame
    · exact fun _ => RcvRow.move hrow (.inl ⟨pick, b, rfl, hb, hvalid⟩)

theorem sndFollows_cmdStart (hidle : s.snd.phase = .idle) : sndFollows .cmdStart s (cmdStart s) := by
  unfold cmdStart
  split_ifs with hlegal
  · exact sndFollows_of_row hidle rfl ⟨.inl rfl, hlegal⟩
  · exact sndFollows_of_eq rfl

/-- Every admitted operation of the sender follows the table of R210. -/
theorem sndFollows_exec {pm : Nat} (hwf : i.wf pm = true) (h : exec i s = .next t) (hi : ownerOf i = .snd) :
    sndFollows i s t := by
  cases i with
  | syn d w | synack d w | ack d w | data d w | fin d w =>
    cases d <;> cases hi
    cases h
    exact sndFollows_frame hwf rfl
  | pldSubmit | pldProcess | pldDrop | pldDup | pldCorrupt | pldDelay | pldPass | pldTickheld | pldBypass | xmit =>
    cases h; exact sndFollows_of_eq (by simp)
  | pldHold => cases h; exact sndFollows_ite fun _ => sndFollows_of_eq rfl
  | sOpen => cases h; exact sndFollows_ite fun g => sndFollows_of_row g.1 rfl ⟨.inr rfl, g.2⟩
  | sRx pick => cases h; exact sndFollows_sRx pick
  | sRxCorrupt | sRxDiscard => cases h; exact sndFollows_of_eq rfl
  | sRxSynack p => cases h; exact sndFollows_ite fun g => sndFollows_of_row g.1 rfl (.inr (.inl ⟨p, rfl, g.2⟩))
  | sHsack => cases h; exact sndFollows_ite fun g => sndFollows_of_row g rfl rfl
  | sSend | sRxAck | sAckFwd | sAckStale => cases h; exact sndFollows_ite fun _ => sndFollows_of_eq (by simp)
  | sFastretx => cases h; exact sndFollows_of_eq (by simp)
  | sTimeout | sRxFinack => cases h; exact sndFollows_ite fun _ => sndFollows_of_eq rfl
  | sFin =>
    cases h
    refine sndFollows_ite fun g => ?_
    obtain ⟨hphase, hacked⟩ := (sFinEnabled_iff s).1 g
    exact sndFollows_of_row hphase rfl ⟨rfl, hacked⟩
  | sRxPeerfin p =>
    cases h
    exact sndFollows_ite fun ⟨hphase, hfin, hacked⟩ =>
      sndFollows_of_row hphase rfl ⟨hacked, .inr (.inl ⟨p, rfl, hfin⟩)⟩
  | cmdStart => cases h; exact sndFollows_ite sndFollows_cmdStart
  | _ => cases hi

theorem rcvFollows_rRxSyn (p : Packet) (hphase : s.rcv.phase = .listen) (hsyn : classify p = .syn) :
    rcvFollows (.rRxSyn p) s (rRxSyn p s) := by
  obtain hsame | ⟨hlegal, hnew⟩ := rRxSyn_phase p s
  · exact rcvFollows_of_eq hsame
  · exact rcvFollows_of_row hphase hnew ⟨hlegal, .inr (.inl ⟨p, rfl, hsyn⟩)⟩

/-- Every admitted operation of the receiver follows the table of R244. -/
theorem rcvFollows_exec {pm : Nat} (hwf : i.wf pm = true) (h : exec i s = .next t) (hi : ownerOf i = .rcv) :
    rcvFollows i s t := by
  cases i with
  | syn d w | synack d w | ack d w | data d w | fin d w =>
    cases d <;> cases hi
    cases h
    exact rcvFollows_frame hwf rfl
  | rRx pick => cases h; exact rcvFollows_rRx pick
  | rRxCorrupt | rRxDiscard => cases h; exact rcvFollows_of_eq (by simp [rRxDiscard])
  | rRxSyn p => cases h; exact rcvFollows_ite fun g => rcvFollows_rRxSyn p g.1 g.2
  | rSynack => cases h; exact rcvFollows_ite fun g => rcvFollows_of_row g rfl rfl
  | rRxHsack p => cases h; exact rcvFollows_ite fun g => rcvFollows_of_row g.1 rfl (.inr (.inl ⟨p, rfl, g.2⟩))
  | rRxData | rDataInorder | rDataOoo => cases h; exact rcvFollows_ite fun _ => rcvFollows_of_eq (by simp)
  | rRxFin p => cases h; exact rcvFollows_ite fun g => rcvFollows_of_row g.1 rfl (.inr (.inl ⟨p, rfl, g.2⟩))
  | rClose => cases h; exact rcvFollows_ite fun g => rcvFollows_of_row g rfl rfl
  | rRxLastack p =>
    cases h; exact rcvFollows_ite fun g => rcvFollows_of_row g.1 rfl (.inr (.inr (.inl ⟨p, rfl, g.2⟩)))
  | _ => cases hi

/-- `CMD.RESET` is a row from every phase (R210). -/
theorem sndMove_cmdReset (a : SndPhase) : sndMove .cmdReset s a .idle := by cases a <;> rfl

theorem rcvMove_cmdReset (a : RcvPhase) : rcvMove .cmdReset s a .listen := by
  cases a with
  | lastAck => exact .inl rfl
  | _ => rfl

end Follows

/-- Settles O50: reset apart, by the engine whose operation it is. -/
theorem phasesFollowTheTables : Obligations.PhasesFollowTheTables := by
  intro i s t hwf h
  by_cases hreset : ownerOf i = .reset
  · cases ownerOf_eq_reset hreset
    cases h
    exact ⟨fun _ => sndMove_cmdReset _, fun _ => rcvMove_cmdReset _⟩
  obtain ⟨hsnd, hrcv, -⟩ := ownerLaw_exec h hreset
  constructor
  · by_cases howner : ownerOf i = .snd
    · exact sndFollows_exec hwf h howner
    · exact sndFollows_of_eq (by rw [(hsnd howner).1])
  · by_cases howner : ownerOf i = .rcv
    · exact rcvFollows_exec hwf h howner
    · exact rcvFollows_of_eq (by rw [(hrcv howner).1])

end Sys2Proof.Proofs.Sender

namespace Sys2Proof.Proofs.Receiver

open Sys2Proof Sys2Proof.Machine Sys2Proof.Proofs.Scope Sys2Proof.Proofs.StateFamily Sys2Proof.Proofs.Guards
  Sys2Proof.Proofs.Encoding Sys2Proof.Proofs.Codec Sys2Proof.Proofs.Injector Sys2Proof.Proofs.Sender

/-! ## The frames the receiver answers with (R243, R247, R284)

What the log shows of a frame is read from the frame's bytes, so it is said once what an encoded packet's bytes show. -/

section Frames

variable (pm : Nat) (p : Packet)

/-- The fields at an encoded frame's offsets are the packet's, completed with its checksum (R135). -/
theorem packetAt_encodeFrame : packetAt (encodeFrame pm p).1 = (encodeFrame pm p).2 := packetAt_hdr p _

theorem frameType_encodeFrame : frameType (encodeFrame pm p).1 = classify p := by
  rw [← classify_packetAt, packetAt_encodeFrame]
  rfl

theorem frameSeq_encodeFrame : frameSeq (encodeFrame pm p).1 = p.seq.toNat :=
  congrArg (fun q : Packet => q.seq.toNat) (packetAt_encodeFrame pm p)

theorem frameAckNum_encodeFrame : frameAckNum (encodeFrame pm p).1 = p.ackNum.toNat :=
  congrArg (fun q : Packet => q.ackNum.toNat) (packetAt_encodeFrame pm p)

end Frames

/-- `R.XMIT` as one update of the state (R247). -/
theorem rXmit_eq (f : Bytes) (s : State) : rXmit f s = { s with
    chanRS := s.chanRS ++ [f]
    logR := s.logR ++ [⟨.snd, s.now, some (frameType f), some (frameSeq f), 0, some (frameAckNum f)⟩] } := rfl

/-- The receiver sends the packet `p` and logs its fields (R247, R284). -/
theorem rXmit_encodeFrame (pm : Nat) (p : Packet) (s : State) : rXmit (encodeFrame pm p).1 s = { s with
    chanRS := s.chanRS ++ [(encodeFrame pm p).1]
    logR := s.logR ++ [⟨.snd, s.now, some (classify p), some p.seq.toNat, 0, some p.ackNum.toNat⟩] } := by
  rw [rXmit_eq, frameType_encodeFrame, frameSeq_encodeFrame, frameAckNum_encodeFrame]

/-! ## The rules of the receiver, each as one update of the state (R233 to R241) -/

section Rules

variable (p : Packet) (s : State)

theorem rSynack_eq : rSynack s = { s with
    chanRS := s.chanRS ++ [rMkFrame s .synack s.rcv.rcvNxt]
    logR := s.logR ++ [⟨.snd, s.now, some .synack, some (s.rcv.isn % 2 ^ 32), 0, some (s.rcv.rcvNxt % 2 ^ 32)⟩]
    rcv := { s.rcv with phase := .awaitAck } } := by
  rw [rSynack, rMkFrame, rXmit_encodeFrame]
  rfl

/-- A frame numbered behind the `SYNACK` is sent and logged with the acknowledge number `a` (R243). -/
theorem rXmit_rMkFrame {ty : FrameType} (a : Nat) (hty : ty = .ack ∨ ty = .fin) (u : State) :
    rXmit (rMkFrame s ty a) u = { u with
      chanRS := u.chanRS ++ [rMkFrame s ty a]
      logR := u.logR ++ [⟨.snd, u.now, some ty, some ((s.rcv.isn + 1) % 2 ^ 32), 0, some (a % 2 ^ 32)⟩] } := by
  rw [rMkFrame, rXmit_encodeFrame]
  obtain rfl | rfl := hty <;> rfl

theorem sinkAppend_eq (b : Bytes) :
    sinkAppend b s = { s with sink := if s.rcv.sinkOpen then s.sink ++ b else s.sink } := by
  unfold sinkAppend
  split_ifs <;> rfl

theorem rDataInorder_eq : rDataInorder p s =
    let a := (s.rcv.rcvNxt + p.payload.length) % 2 ^ 32
    { s with
      sink := if s.rcv.sinkOpen then s.sink ++ p.payload else s.sink
      rcv := { s.rcv with rcvNxt := a }
      chanRS := s.chanRS ++ [rMkFrame s .ack a]
      logR := s.logR ++ [⟨.snd, s.now, some .ack, some ((s.rcv.isn + 1) % 2 ^ 32), 0, some (a % 2 ^ 32)⟩] } := by
  simp only [rDataInorder, sinkAppend_eq, rXmit_rMkFrame _ _ (.inl rfl)]
  rfl

theorem rDataOoo_eq : rDataOoo p s = { s with
    cntR := { s.cntR with dupAcks := s.cntR.dupAcks + 1 }
    chanRS := s.chanRS ++ [rMkFrame s .ack s.rcv.rcvNxt]
    logR := s.logR ++
      [⟨.snd, s.now, some .ack, some ((s.rcv.isn + 1) % 2 ^ 32), 0, some (s.rcv.rcvNxt % 2 ^ 32)⟩] } := by
  simp only [rDataOoo, rXmit_rMkFrame _ _ (.inl rfl)]
  rfl

/-- Counting and observing as one update: a number seen before counts once as a duplicate (R236). -/
theorem rObserve_eq (q : Nat) : rObserve q s = { s with
    cntR := { s.cntR with
      segmentsReceived := s.cntR.segmentsReceived + 1
      segmentsDuplicate := s.cntR.segmentsDuplicate + if 1 ≤ countGet s.rcv.obs q then 1 else 0 }
    rcv := { s.rcv with obs := countSet s.rcv.obs q (countGet s.rcv.obs q + 1) } } := by
  unfold rObserve
  split_ifs <;> rfl

theorem inc32_mod (x : Nat) : inc32 x % 2 ^ 32 = inc32 x := Nat.mod_mod _ _

theorem rClose_eq : rClose s =
    let a := inc32 s.rcv.finSeq
    { s with
      chanRS := s.chanRS ++ [rMkFrame s .ack a, rMkFrame s .fin a]
      logR := s.logR ++
        [⟨.snd, s.now, some .ack, some ((s.rcv.isn + 1) % 2 ^ 32), 0, some a⟩,
          ⟨.snd, s.now, some .fin, some ((s.rcv.isn + 1) % 2 ^ 32), 0, some a⟩]
      rcv := { s.rcv with phase := .lastAck } } := by
  simp only [rClose, rXmit_rMkFrame _ _ (.inl rfl), rXmit_rMkFrame _ _ (.inr rfl), inc32_mod, List.append_assoc]
  rfl

end Rules

/-- Settles O41: by the check of R233, the receiver's only one. -/
theorem synOpensTheReceiver : Obligations.SynOpensTheReceiver := by
  intro p s hphase hsyn
  have hrun : exec (.rRxSyn p) s = .next (rRxSyn p s) := congrArg Host.Outcome.next (if_pos ⟨hphase, hsyn⟩)
  rw [hrun]
  refine ⟨fun hlegal => congrArg _ (if_pos ?_), fun hillegal => congrArg _ (if_neg ?_)⟩
  · simpa [receiverConfigLegal] using hlegal
  · simpa [receiverConfigLegal] using hillegal

/-- Settles O42: under their guards the two rules are what they write. -/
theorem receiverAnswersTheHandshake : Obligations.ReceiverAnswersTheHandshake := fun _ s =>
  ⟨fun hphase => congrArg Host.Outcome.next ((if_pos hphase).trans (rSynack_eq s)),
    fun hphase hack => congrArg Host.Outcome.next (if_pos ⟨hphase, hack⟩)⟩

/-- Settles O43: the expected number is the guard of the one rule, any other that of the other. -/
theorem onlyTheExpectedSegmentIsDelivered : Obligations.OnlyTheExpectedSegmentIsDelivered := fun p s =>
  ⟨fun hexpected => congrArg Host.Outcome.next ((if_pos hexpected).trans (rDataInorder_eq p s)),
    fun hother => congrArg Host.Outcome.next ((if_pos hother).trans (rDataOoo_eq p s))⟩

/-- Settles O44: the observation moves neither the expected number nor the packet's, so the sequence test behind it is
the guard of the rule it selects. -/
theorem dataIsObservedThenTested : Obligations.DataIsObservedThenTested := by
  intro p s hphase hdata q n s1
  have hobserve : rObserve q s = s1 := rObserve_eq s q
  have hrun : exec (.rRxData p) s = .next (if q = s1.rcv.rcvNxt then rDataInorder p s1 else rDataOoo p s1) := by
    rw [← hobserve]
    exact congrArg Host.Outcome.next (if_pos ⟨hphase, hdata⟩)
  rw [hrun]
  refine ⟨fun hexpected => ⟨rDataInorder p s1, ?_, ?_⟩, fun hother => ⟨rDataOoo p s1, ?_, ?_⟩⟩
  · exact congrArg _ (if_pos hexpected)
  · exact congrArg _ (if_pos hexpected)
  · exact congrArg _ (if_pos hother)
  · exact congrArg _ (if_neg hother)

/-- Settles O45: each of the three rules under its guard. -/
theorem receiverClosesAndListens : Obligations.ReceiverClosesAndListens := fun _ s =>
  ⟨fun hphase hfin => congrArg Host.Outcome.next (if_pos ⟨hphase, hfin⟩),
    fun hphase => congrArg Host.Outcome.next ((if_pos hphase).trans (rClose_eq s)),
    fun hphase hack => congrArg Host.Outcome.next (if_pos ⟨hphase, hack⟩)⟩

/-! ## Polls (R68, R231) -/

section Rows

variable (ty : FrameType) (p : Packet)

theorem rRule_listen : rRule .listen ty p = if ty = .syn then .rRxSyn p else .rRxDiscard p := by cases ty <;> rfl

theorem rRule_awaitAck : rRule .awaitAck ty p = if ty = .ack then .rRxHsack p else .rRxDiscard p := by
  cases ty <;> rfl

theorem rRule_established : rRule .established ty p =
    if ty = .data then .rRxData p else if ty = .fin then .rRxFin p else .rRxDiscard p := by
  cases ty <;> rfl

theorem rRule_lastAck : rRule .lastAck ty p = if ty = .ack then .rRxLastack p else .rRxDiscard p := by
  cases ty <;> rfl

end Rows

section Poll

variable {pick : Nat} {b : Bytes} {s : State} (hpolls : rcvPolls s.rcv.phase = true)
  (hb : s.chanSR[pollIndex pick]? = some b)
include hpolls hb

/-- A poll hands the datagram it removes to the receiver (R68, R231). -/
theorem exec_rRx_of_polls : exec (.rRx pick) s =
    .next (pollDatagram .sr b (s.withChanSR (s.chanSR.eraseIdx (pollIndex pick)))) := by
  simp only [exec, execRRx, rRx, chanPoll, chanGet, pollDatagram, State.withChanSR_rcv, hpolls, hb, if_true]
  rfl

/-- A valid datagram is logged, and the rule of the table runs on the state without it (R231). -/
theorem exec_rRx_of_ok {p : Packet} (hp : decodeFrame s.cfg.payloadMax b = .ok p) : exec (.rRx pick) s =
    exec (rRule s.rcv.phase (classify p) p)
      (logRcv (packetRec s.now p) (s.withChanSR (s.chanSR.eraseIdx (pollIndex pick)))) := by
  rw [exec_rRx_of_polls hpolls hb, classify_of_decodeFrame hp]
  exact poll_sr_of_ok (s := s.withChanSR _) hpolls hp

end Poll

/-- Settles O40: a poll is the rule of the table (`rRule`) on the state without the datagram and with its record; the
table is read off phase by phase. -/
theorem receiverPollRunsTheTableRule : Obligations.ReceiverPollRunsTheTableRule := by
  intro pick i b s hfifo hunordered hb s0
  obtain rfl := pollIndex_eq hfifo hunordered
  refine ⟨fun c hc hpolls => ⟨_, rfl, ?_⟩, ?_, fun hphase => ?_⟩
  · have hpolls := (rcvPolls_iff _).2 hpolls
    rw [exec_rRx_of_polls hpolls hb]
    exact poll_sr_of_error (s := s0) hpolls hc
  · intro p hp s1
    have hrule (ph : RcvPhase) (hphase : s.rcv.phase = ph) (hpolls : rcvPolls ph = true) :
        exec (.rRx pick) s = exec (rRule ph (classify p) p) s1 := by
      subst hphase
      exact exec_rRx_of_ok hpolls hb hp
    refine ⟨fun hphase => ?_, fun hphase => ?_, fun hphase => ?_, fun hphase => ?_⟩ <;> rw [hrule _ hphase rfl]
    · rw [rRule_listen]
      split_ifs
      · exact ⟨_, rfl, rfl⟩
      · rfl
    · rw [rRule_awaitAck]
      split_ifs with hack
      · exact congrArg Host.Outcome.next (if_pos ⟨hphase, hack⟩)
      · rfl
    · rw [rRule_established]
      split_ifs with hdata hfin
      · exact ⟨_, rfl, rfl⟩
      · exact congrArg Host.Outcome.next (if_pos ⟨hphase, hfin⟩)
      · rfl
    · rw [rRule_lastAck]
      split_ifs with hack
      · exact congrArg Host.Outcome.next (if_pos ⟨hphase, hack⟩)
      · rfl
  · refine exec_of_not_enabled fun he => ?_
    obtain hphase | hphase := hphase <;> simp [enabled, rcvPolls, hphase] at he

/-! ## The counter laws (R236, R246)

Only `R.RX_SYN`, which clears all of them, and the observation in `R.RX_DATA` write the table or the two counts. -/

section Counters

variable {s t : State} (hs : countersSafe s)
include hs

/-- An operation that leaves the table and the two counts alone. -/
theorem countersSafe_of_same (hobs : t.rcv.obs = s.rcv.obs := by simp)
    (hreceived : t.cntR.segmentsReceived = s.cntR.segmentsReceived := by simp)
    (hduplicate : t.cntR.segmentsDuplicate = s.cntR.segmentsDuplicate := by simp) : countersSafe t := by
  simpa only [countersSafe, hobs, hreceived, hduplicate] using hs

/-- An operation behind a guard has only its enabled case to keep (entry 4). -/
theorem countersSafe_ite {g : Prop} [Decidable g] (ht : g → countersSafe t) :
    countersSafe (if g then t else s) := by
  split_ifs with hg
  · exact ht hg
  · exact hs

theorem countersSafe_rRxCorrupt (b : Bytes) (c : Cause) : countersSafe (rRxCorrupt b c s) := by
  rw [rRxCorrupt_eq]
  exact countersSafe_of_same hs rfl rfl rfl

theorem countersSafe_rRxSyn (p : Packet) : countersSafe (rRxSyn p s) := by
  unfold rRxSyn
  split_ifs
  · exact ⟨rfl, rfl, rfl⟩
  · exact countersSafe_of_same hs rfl rfl rfl

theorem countersSafe_rDataInorder (p : Packet) : countersSafe (rDataInorder p s) := by
  rw [rDataInorder_eq]
  exact countersSafe_of_same hs rfl rfl rfl

theorem countersSafe_rDataOoo (p : Packet) : countersSafe (rDataOoo p s) := by
  rw [rDataOoo_eq]
  exact countersSafe_of_same hs rfl rfl rfl

/-- One more observation of a number raises the sum of the counts by 1, and the sum of the counts less one by 1 exactly
where the number was seen before (R236). -/
theorem countersSafe_rObserve (q : Nat) : countersSafe (rObserve q s) := by
  obtain ⟨hwf, hreceived, hduplicate⟩ := hs
  have hsum := countSum_countSet (fun n => n) rfl s.rcv.obs 0 q (countGet s.rcv.obs q + 1) hwf
  have hsumless := countSum_countSet (fun n => n - 1) rfl s.rcv.obs 0 q (countGet s.rcv.obs q + 1) hwf
  rw [rObserve_eq]
  refine ⟨countSet_wf _ _ _ hwf, ?_, ?_⟩ <;> dsimp only at *
  · omega
  · split_ifs <;> omega

theorem countersSafe_rRxData (p : Packet) : countersSafe (rRxData p s) := by
  have hobserved := countersSafe_rObserve hs p.seq.toNat
  unfold rRxData
  dsimp only
  split_ifs
  · exact countersSafe_rDataInorder hobserved p
  · exact countersSafe_rDataOoo hobserved p

theorem countersSafe_rDispatch (p : Packet) : countersSafe (rDispatch p s) := by
  unfold rDispatch
  split
  next => exact countersSafe_rRxSyn hs p
  next => exact countersSafe_of_same hs rfl rfl rfl
  next => exact countersSafe_rRxData hs p
  next => exact countersSafe_of_same hs rfl rfl rfl
  next => exact countersSafe_of_same hs rfl rfl rfl
  next => exact hs

theorem countersSafe_rReceive (b : Bytes) : countersSafe (rReceive b s) := by
  obtain ⟨c, -, he⟩ | ⟨p, -, he⟩ := rReceive_cases s b <;> rw [he]
  · exact countersSafe_rRxCorrupt hs b c
  · exact countersSafe_rDispatch (s := logRcv (packetRec s.now p) s) hs p

theorem countersSafe_rRx (pick : Nat) : countersSafe (rRx pick s) := by
  obtain he | ⟨b, -, -, he⟩ := rRx_cases s pick <;> rw [he]
  · exact hs
  · exact countersSafe_rReceive (s := s.withChanSR (s.chanSR.eraseIdx (pollIndex pick))) hs b

/-- A datagram handed to an engine counts at the receiver only (R42; entry 7). -/
theorem countersSafe_pollDatagram (d : Dir) (b : Bytes) : countersSafe (pollDatagram d b s) := by
  cases d with
  | sr => exact countersSafe_ite hs fun _ => countersSafe_rReceive hs b
  | rs =>
    obtain ⟨-, hrcv, -⟩ := ownerLaw_pollDatagram (s := s) .rs b
    obtain ⟨hregs, hcnt, -⟩ := hrcv nofun
    exact countersSafe_of_same hs (by rw [hregs]) (by rw [hcnt]) (by rw [hcnt])

/-- Every operation of the receiver. -/
theorem countersSafe_exec_rcv {i : Instr} (h : exec i s = .next t) (hi : ownerOf i = .rcv) : countersSafe t := by
  cases i with
  | syn d w | synack d w | ack d w | data d w | fin d w => cases h; exact countersSafe_pollDatagram hs d _
  | rRx pick => cases h; exact countersSafe_rRx hs pick
  | rRxCorrupt b c => cases h; exact countersSafe_rRxCorrupt hs b c
  | rRxSyn p => cases h; exact countersSafe_ite hs fun _ => countersSafe_rRxSyn hs p
  | rSynack | rRxHsack | rRxFin | rClose | rRxLastack =>
    cases h; exact countersSafe_ite hs fun _ => countersSafe_of_same hs rfl rfl rfl
  | rRxData p => cases h; exact countersSafe_ite hs fun _ => countersSafe_rRxData hs p
  | rDataInorder p => cases h; exact countersSafe_ite hs fun _ => countersSafe_rDataInorder hs p
  | rDataOoo p => cases h; exact countersSafe_ite hs fun _ => countersSafe_rDataOoo hs p
  | rRxDiscard => cases h; exact hs
  | _ => cases hi

/-- Every operation: reset clears the table and the counts, and no owner but the receiver writes them (R42). -/
theorem countersSafe_exec {i : Instr} (h : exec i s = .next t) : countersSafe t := by
  by_cases hreset : ownerOf i = .reset
  · cases ownerOf_eq_reset hreset
    cases h
    exact ⟨rfl, rfl, rfl⟩
  by_cases howner : ownerOf i = .rcv
  · exact countersSafe_exec_rcv hs h howner
  · obtain ⟨-, hrcv, -⟩ := ownerLaw_exec h hreset
    obtain ⟨hregs, hcnt, -⟩ := hrcv howner
    exact countersSafe_of_same hs (by rw [hregs]) (by rw [hcnt]) (by rw [hcnt])

end Counters

/-- Settles O58: by the three things a step can do (`step_cases`), each on a state that differs in its schedule only. -/
theorem stepKeepsTheCounterLaws : Obligations.StepKeepsTheCounterLaws := by
  intro s t hs h
  obtain rfl | ⟨slot, rest, -, hrun⟩ := step_cases s t h
  · exact hs
  have hu : countersSafe (s.withEnv { s.env with sched := rest }) := hs
  obtain ⟨i, -, -, hi⟩ | ⟨d, b, -, rfl⟩ := hrun
  · exact countersSafe_exec hu hi
  · exact countersSafe_pollDatagram hu d b

/-! ## The injector and the channel invent no frame (R164, R209)

Whatever holds of every frame that is submitted holds of every frame on its way, whichever branch it takes. -/

/-- Every frame on its way to the receiver has the property `P`; `chan.SR` may hold a `FLIP6` of one (R164). -/
structure InTransit (P : Bytes → Prop) (s : State) : Prop where
  chanSR : ∀ b ∈ s.chanSR, ∃ f, P f ∧ (b = f ∨ b = flip6 f)
  pending : ∀ m ∈ s.pld.pending, P m.frame
  held : ∀ h, s.pld.held = some h → P h.frame

section Injector

variable {P : Bytes → Prop} {f : Bytes} {dest : Addr} {retx : Bool} {s t : State}

/-- Frames may be lost, polled or fired on the way. -/
theorem InTransit.of_subset (h : InTransit P s) (chanSR : t.chanSR ⊆ s.chanSR)
    (pending : t.pld.pending ⊆ s.pld.pending) (held : t.pld.held = s.pld.held) : InTransit P t :=
  ⟨fun b hb => h.chanSR b (chanSR hb), fun m hm => h.pending m (pending hm), held ▸ h.held⟩

theorem InTransit.of_same (h : InTransit P s) (chanSR : t.chanSR = s.chanSR) (pld : t.pld = s.pld) :
    InTransit P t :=
  h.of_subset (chanSR ▸ List.Subset.refl _) (pld ▸ List.Subset.refl _) (by rw [pld])

/-- A transmission of frames with the property, or of their `FLIP6`. -/
theorem InTransit.of_sentSR (h : InTransit P s) {fs : List Bytes} (hfs : ∀ b ∈ fs, ∃ f, P f ∧ (b = f ∨ b = flip6 f))
    (chanSR : t.chanSR = sentSR s fs) (pld : t.pld = s.pld) : InTransit P t := by
  refine ⟨fun b hb => ?_, pld ▸ h.pending, pld ▸ h.held⟩
  rw [chanSR, sentSR] at hb
  split_ifs at hb
  · exact (List.mem_append.1 hb).elim (h.chanSR b) (hfs b)
  · exact h.chanSR b hb

variable (h : InTransit P s)
include h

theorem InTransit.tickHeld : InTransit P (tickHeld s) := by
  cases hheld : s.pld.held with
  | none => rwa [tickHeld_of_none hheld]
  | some x =>
    obtain hbound | hbound := Nat.lt_or_ge (s.pld.wait + 1) s.cfg.reorderMaxDelay
    · rw [tickHeld_of_lt hheld hbound]
      exact ⟨h.chanSR, h.pending, h.held⟩
    · rw [tickHeld_of_le hheld hbound]
      have hsent := h.of_sentSR (t := s.withChanSR (sentSR s [x.frame])) (fs := [x.frame])
        (by simpa using ⟨x.frame, h.held x hheld, .inl rfl⟩) rfl rfl
      exact ⟨hsent.chanSR, h.pending, nofun⟩

variable (hf : P f)
include hf

theorem InTransit.pldDup : InTransit P (pldDup f dest retx s) := by
  rw [pldDup_eq]
  exact h.of_sentSR (fs := [f, f]) (by simpa using ⟨f, hf, .inl rfl⟩) rfl rfl

theorem InTransit.pldCorrupt : InTransit P (pldCorrupt f dest retx s) := by
  rw [pldCorrupt_eq]
  exact h.of_sentSR (fs := [flip6 f]) (by simpa using ⟨f, hf, .inr rfl⟩) rfl rfl

theorem InTransit.pldHold : InTransit P (pldHold f dest retx s) :=
  ⟨h.chanSR, h.pending, fun _ he => Option.some.inj he ▸ hf⟩

theorem InTransit.pldDelay : InTransit P (pldDelay f dest retx s) :=
  ⟨h.chanSR, fun m hm => (List.mem_append.1 hm).elim (h.pending m) fun hm => List.mem_singleton.1 hm ▸ hf, h.held⟩

theorem InTransit.pldPass : InTransit P (pldPass f dest retx s) := by
  rw [pldPass_eq]
  exact h.of_sentSR (fs := [f]) (by simpa using ⟨f, hf, .inl rfl⟩) rfl rfl

theorem InTransit.pldBypass : InTransit P (pldBypass f dest s) := by
  rw [pldBypass_eq]
  exact h.of_sentSR (fs := [f]) (by simpa using ⟨f, hf, .inl rfl⟩) rfl rfl

theorem InTransit.pldProcess : InTransit P (pldProcess f dest retx s) := by
  have hdraws (n : Nat) : InTransit P (skipDraws n s) := h.of_same rfl rfl
  rw [pldProcess_eq]
  split_ifs
  · exact (hdraws 1).of_same rfl rfl
  · exact ((hdraws 2).pldDup hf).tickHeld
  · exact ((hdraws 3).pldCorrupt hf).tickHeld
  · exact (hdraws 4).pldHold hf
  · exact ((hdraws 5).pldDelay hf).tickHeld
  · exact ((hdraws 5).pldPass hf).tickHeld
  · exact ((hdraws 4).pldDelay hf).tickHeld
  · exact ((hdraws 4).pldPass hf).tickHeld

theorem InTransit.pldSubmit (ty : FrameType) : InTransit P (pldSubmit f ty dest retx s) := by
  unfold Machine.pldSubmit
  split_ifs
  · exact h.pldProcess hf
  · exact h.pldBypass hf

/-- A rule that submits a frame and writes other registers before and behind the submission. -/
theorem InTransit.of_submit {ty : FrameType} {u : State}
    (chanSR : t.chanSR = (Machine.pldSubmit f ty dest retx u).chanSR)
    (pld : t.pld = (Machine.pldSubmit f ty dest retx u).pld) (uchanSR : u.chanSR = s.chanSR)
    (upld : u.pld = s.pld) : InTransit P t :=
  ((h.of_same uchanSR upld).pldSubmit hf ty).of_same chanSR pld

end Injector

theorem InTransit.dlyFire {P : Bytes → Prop} {m : Pending} {s : State} (h : InTransit P s)
    (hm : m ∈ s.pld.pending) : InTransit P (dlyFire m s) := by
  have hfired : InTransit P (s.withPld { s.pld with pending := s.pld.pending.erase m }) :=
    h.of_subset (List.Subset.refl _) List.erase_subset rfl
  cases hopen : s.snd.chanOpen with
  | false =>
    rw [dlyFire_of_closed hopen]
    exact hfired.of_same rfl rfl
  | true =>
    rw [dlyFire_of_open hopen]
    exact hfired.of_sentSR (fs := [m.frame]) (by simpa using ⟨m.frame, h.pending m hm, .inl rfl⟩)
      (sentSR_of_open (s := s.withPld _) hopen).symm rfl

/-! ## What the sender sends (R188, R189, R193, R195, R197, R209) -/

section Sent

variable {s t : State}

/-- What the sender may send depends on its base, its configuration and `SRC` alone (R209). -/
theorem sentFrame_congr (hbase : t.snd.base = s.snd.base) (hcfg : t.cfg = s.cfg) (hsrc : t.src = s.src) :
    sentFrame t = sentFrame s := by
  have hpacket (p : Packet) : sentPacket t p ↔ sentPacket s p := by
    simp only [sentPacket, endSeq, segBytes, segLen, off, hbase, hcfg, hsrc]
  funext f
  simp only [sentFrame, hpacket, hcfg]

theorem segBytes_length (s : State) (q : Nat) : (segBytes s q).length = segLen s q := memReadN_length ..

theorem classify_sndPacket (s : State) {ty : FrameType} (q a : Nat) (pl : Bytes) (hty : ty ≠ .rsv) :
    classify (sndPacket s ty q a pl) = ty := by
  cases ty with
  | rsv => exact absurd rfl hty
  | _ => rfl

/-- The sender may send every frame without a payload that is neither a `SYN` nor `DATA`. -/
theorem sentFrame_control (s : State) {ty : FrameType} (q a : Nat) (hty : ty = .ack ∨ ty = .fin) :
    sentFrame s (mkFrame s ty q a []) := by
  have hclass := classify_sndPacket s q a [] (show ty ≠ .rsv by obtain rfl | rfl := hty <;> decide)
  refine ⟨_, ⟨Nat.zero_le _, fun hsyn => ?_, fun hdata => ?_⟩, rfl⟩
  · obtain rfl | rfl := hty <;> cases hclass.symm.trans hsyn
  · obtain rfl | rfl := hty <;> cases hclass.symm.trans hdata

/-- Outside `IDLE` the sender's numbers are within 32 bits, its base is behind `ISN_S`, and a segment fits in a frame
(R206, R306). -/
theorem bounds_of_active (hw : windowSafe s) (hactive : s.snd.phase ≠ .idle) :
    s.snd.base = s.cfg.isnS + 1 ∧ endSeq s < 2 ^ 32 ∧ s.cfg.mss ≤ s.cfg.payloadMax := by
  obtain ⟨-, -, -, -, -, -, -, hlegal⟩ := hw
  obtain ⟨hcfg, hbase⟩ := hlegal hactive
  have hend := (senderConfigLegal_bounds hcfg).2.2
  simp only [senderConfigLegal, Bool.and_eq_true, decide_eq_true_eq] at hcfg
  obtain ⟨⟨⟨⟨⟨⟨⟨-, hmss⟩, -⟩, -⟩, -⟩, -⟩, -⟩, -⟩ := hcfg
  refine ⟨hbase, ?_, hmss⟩
  unfold endSeq
  omega

/-- `DATAFRAME(q)` of a number within the source (R182). -/
theorem sentFrame_dataFrame (hw : windowSafe s) (hactive : s.snd.phase ≠ .idle) {q : Nat} (hlow : s.snd.base ≤ q)
    (hhigh : q < endSeq s) : sentFrame s (dataFrame s q) := by
  obtain ⟨-, hend, hmss⟩ := bounds_of_active hw hactive
  have hseq : (BitVec.ofNat 32 q).toNat = q := Nat.mod_eq_of_lt (hhigh.trans hend)
  refine ⟨_, ⟨?_, fun hsyn => ?_, fun _ => ?_⟩, rfl⟩
  · exact (segBytes_length s q).trans_le ((Nat.min_le_left _ _).trans hmss)
  · cases (classify_sndPacket s q _ _ (by decide)).symm.trans hsyn
  · dsimp only [sndPacket]
    rw [hseq]
    exact ⟨hlow, hhigh, rfl⟩

/-- The `SYN` of `S.OPEN` (R184). -/
theorem sentFrame_syn (hlegal : senderConfigLegal s.cfg = true) : sentFrame s (mkFrame s .syn s.cfg.isnS 0 []) := by
  have hisn := (senderConfigLegal_bounds hlegal).2.2
  refine ⟨_, ⟨Nat.zero_le _, fun _ => Nat.mod_eq_of_lt (by omega), fun hdata => ?_⟩, rfl⟩
  cases (classify_sndPacket s _ 0 [] (by decide)).symm.trans hdata

end Sent

@[simp] theorem rttArm_chanSR (s : State) : (rttArm s).chanSR = s.chanSR := by
  unfold rttArm
  split <;> rfl

/-- The round-trip measurement writes the sender's registers alone (R203). -/
@[simp] theorem rttOnFwdAck_chanSR (a : Nat) (s : State) : (rttOnFwdAck a s).chanSR = s.chanSR := by
  cases htimed : s.snd.timed with
  | none =>
    obtain ⟨tm, c, -, he⟩ := rttOnFwdAck_of_none (a := a) htimed
    rw [he]
    rfl
  | some t =>
    obtain ⟨e, d, tm, c, -, -, he⟩ := rttOnFwdAck_of_some (a := a) htimed
    rw [he]
    rfl

/-- The guard of `S.FASTRETX` keeps the number within the source (R193). -/
theorem inTransit_sFastretx {P : Bytes → Prop} {s : State} (h : InTransit P s) (hsent : ∀ f, sentFrame s f → P f)
    (hw : windowSafe s) (hactive : s.snd.phase ≠ .idle) (a : Nat) : InTransit P (sFastretx a s) := by
  by_cases hguard : s.snd.base ≤ a ∧ a < endSeq s ∧ a < s.snd.max
  · obtain ⟨hbase, hend, hmax⟩ := hguard
    rw [sFastretx_of_sent s hbase hend hmax]
    exact h.of_submit (hsent _ (sentFrame_dataFrame hw hactive hbase hend)) rfl rfl rfl rfl
  · rwa [show sFastretx a s = s from if_neg hguard]

section SenderRules

variable {s : State} (h : InTransit (sentFrame s) s)
include h

theorem inTransit_sHsack : InTransit (sentFrame s) (sHsack s) :=
  h.of_submit (sentFrame_control s _ _ (.inl rfl)) rfl rfl rfl rfl

theorem inTransit_sFin : InTransit (sentFrame s) (sFin s) :=
  h.of_submit (sentFrame_control s _ _ (.inr rfl)) rfl rfl rfl rfl

theorem inTransit_sRxPeerfin (p : Packet) : InTransit (sentFrame s) (sRxPeerfin p s) :=
  h.of_submit (sentFrame_control s _ _ (.inl rfl)) rfl rfl rfl rfl

theorem inTransit_sAckFwd (a : Nat) : InTransit (sentFrame s) (sAckFwd a s) :=
  h.of_same (by simp [sAckFwd]) (by simp [sAckFwd])

variable (hw : windowSafe s) (hactive : s.snd.phase ≠ .idle)
include hw hactive

theorem inTransit_sSend (henabled : sSendEnabled s = true) : InTransit (sentFrame s) (sSend s) := by
  obtain ⟨-, hpos, hoff, -⟩ := sSendEnabled_bounds henabled
  have hend : s.snd.nxt < endSeq s := by
    unfold off at hoff
    unfold endSeq
    omega
  rw [sSend_eq]
  exact h.of_submit (sentFrame_dataFrame hw hactive hpos hend) (rttArm_chanSR _) (rttArm_pld _) rfl rfl

theorem inTransit_sAckStale (a : Nat) : InTransit (sentFrame s) (sAckStale a s) := by
  unfold sAckStale
  dsimp only
  split_ifs
  · refine inTransit_sFastretx ?_ ?_ ?_ ?_ a
    · exact h.of_same rfl rfl
    · exact fun _ hf => hf
    · exact hw
    · exact hactive
  · exact h.of_same rfl rfl

theorem inTransit_sRxAck (p : Packet) : InTransit (sentFrame s) (sRxAck p s) := by
  unfold sRxAck
  split_ifs
  · exact h
  · exact inTransit_sAckFwd h _
  · exact inTransit_sAckStale h hw hactive _

theorem inTransit_sDispatch (p : Packet) : InTransit (sentFrame s) (sDispatch p s) := by
  unfold sDispatch
  split
  next => exact h.of_same rfl rfl
  next => exact inTransit_sRxAck h hw hactive p
  next => split_ifs <;> exact h.of_same rfl rfl
  next =>
    split_ifs
    · exact inTransit_sRxPeerfin h p
    · exact h
  next => exact h

theorem inTransit_sReceive (b : Bytes) : InTransit (sentFrame s) (sReceive b s) := by
  obtain ⟨c, -, he⟩ | ⟨p, -, he⟩ := sReceive_cases s b <;> rw [he]
  · exact h.of_same rfl rfl
  · exact inTransit_sDispatch (s := logSnd (packetRec s.now p) s) (h.of_same rfl rfl) hw hactive p

end SenderRules

/-! ## What the receiver delivers (R233, R237, R245) -/

/-- A datagram of `chan.SR` that passes `DECODE` is a packet that the sender built: a damaged one does not pass
(R138, R209). -/
theorem sentPacket_of_decodeFrame {s : State} {b : Bytes} {p : Packet} (hb : sentDatagram s b)
    (hp : decodeFrame s.cfg.payloadMax b = .ok p) : sentPacket s p := by
  obtain ⟨f, ⟨q, hq, rfl⟩, rfl | rfl⟩ := hb
  · obtain ⟨hround, -⟩ := decodeUndoesEncode s.cfg.payloadMax q hq.1
    cases hround.symm.trans hp
    exact hq
  · cases (flippedFrameFailsTheDigest s.cfg.payloadMax q hq.1).symm.trans hp

theorem memReadN_add (m : Memory) (o a b : Nat) : memReadN m o (a + b) = memReadN m o a ++ memReadN m (o + a) b := by
  simp [memReadN, List.range_add, Nat.add_assoc]

/-- `SINK` is the source up to the number the receiver expects, which lies within the source from the connection's
opening on (R245). -/
def sinkSafe (s : State) : Prop :=
  (s.rcv.phase ≠ .listen → s.snd.base ≤ s.rcv.rcvNxt ∧ s.rcv.rcvNxt ≤ endSeq s) ∧
    s.sink = memReadN s.src 0 (s.rcv.rcvNxt - s.snd.base)

section Sink

variable {s : State} (hs : sinkSafe s)
include hs

theorem sinkSafe_rSynack (hphase : s.rcv.phase = .synRcvd) : sinkSafe (rSynack s) := by
  rw [rSynack_eq]
  exact ⟨fun _ => hs.1 (by simp [hphase]), hs.2⟩

theorem sinkSafe_rClose (hphase : s.rcv.phase = .finRcvd) : sinkSafe (rClose s) := by
  rw [rClose_eq]
  exact ⟨fun _ => hs.1 (by simp [hphase]), hs.2⟩

theorem sinkSafe_rRxCorrupt (b : Bytes) (c : Cause) : sinkSafe (rRxCorrupt b c s) := by
  rw [rRxCorrupt_eq]
  exact hs

theorem sinkSafe_rDataOoo (p : Packet) : sinkSafe (rDataOoo p s) := by
  rw [rDataOoo_eq]
  exact hs

variable (hw : windowSafe s) (hactive : s.snd.phase ≠ .idle)
include hw hactive

/-- The sender's `SYN` carries the number before its base, so the emptied sink is the source up to the number the
receiver expects next (R209, R233). -/
theorem sinkSafe_rRxSyn {p : Packet} (hp : sentPacket s p) (hsyn : classify p = .syn) : sinkSafe (rRxSyn p s) := by
  obtain ⟨hbase, hend, -⟩ := bounds_of_active hw hactive
  obtain ⟨-, hseq, -⟩ := hp
  have hle : s.snd.base ≤ endSeq s := Nat.le_add_right _ _
  have hnext : inc32 p.seq.toNat = s.snd.base := by
    rw [hseq hsyn, hbase]
    exact Nat.mod_eq_of_lt (by omega)
  unfold rRxSyn
  split_ifs
  · refine ⟨fun _ => ?_, ?_⟩
    · change s.snd.base ≤ inc32 p.seq.toNat ∧ inc32 p.seq.toNat ≤ endSeq s
      rw [hnext]
      exact ⟨le_rfl, hle⟩
    · change [] = memReadN s.src 0 (inc32 p.seq.toNat - s.snd.base)
      rw [hnext, Nat.sub_self]
      rfl
  · exact hs

/-- A segment at the expected number carries the source bytes from there on, which the open sink takes (R209, R237). -/
theorem sinkSafe_rDataInorder {p : Packet} (hp : sentPacket s p) (hdata : classify p = .data)
    (hopen : s.rcv.sinkOpen = true) (hexpected : p.seq.toNat = s.rcv.rcvNxt) : sinkSafe (rDataInorder p s) := by
  obtain ⟨-, hend, -⟩ := bounds_of_active hw hactive
  obtain ⟨-, -, hsent⟩ := hp
  obtain ⟨hlow, hhigh, hpayload⟩ := hsent hdata
  rw [hexpected] at hlow hhigh hpayload
  have hlen : p.payload.length ≤ s.cfg.srcLen - (s.rcv.rcvNxt - s.snd.base) := by
    rw [hpayload, segBytes_length]
    exact Nat.min_le_right _ _
  have hwithin : s.rcv.rcvNxt + p.payload.length ≤ endSeq s := by
    unfold endSeq at hhigh ⊢
    omega
  have hnext : (s.rcv.rcvNxt + p.payload.length) % 2 ^ 32 = s.rcv.rcvNxt + p.payload.length :=
    Nat.mod_eq_of_lt (hwithin.trans_lt hend)
  have hbytes : p.payload = memReadN s.src (s.rcv.rcvNxt - s.snd.base) p.payload.length := by
    conv_rhs => rw [hpayload, segBytes_length]
    exact hpayload
  rw [rDataInorder_eq, hnext]
  refine ⟨fun _ => ⟨hlow.trans (Nat.le_add_right _ _), hwithin⟩, ?_⟩
  calc (if s.rcv.sinkOpen then s.sink ++ p.payload else s.sink) = s.sink ++ p.payload := if_pos hopen
    _ = memReadN s.src 0 (s.rcv.rcvNxt - s.snd.base) ++
        memReadN s.src (s.rcv.rcvNxt - s.snd.base) p.payload.length := by rw [← hs.2, ← hbytes]
    _ = memReadN s.src 0 (s.rcv.rcvNxt - s.snd.base + p.payload.length) := by rw [memReadN_add, Nat.zero_add]
    _ = memReadN s.src 0 (s.rcv.rcvNxt + p.payload.length - s.snd.base) := by
        rw [Nat.sub_add_comm hlow]

theorem sinkSafe_rRxData {p : Packet} (hp : sentPacket s p) (hdata : classify p = .data)
    (hopen : s.rcv.sinkOpen = true) : sinkSafe (rRxData p s) := by
  have hobserved : sinkSafe (rObserve p.seq.toNat s) := hs
  unfold rRxData
  dsimp only
  split_ifs with hexpected
  · exact sinkSafe_rDataInorder hobserved hw hactive hp hdata hopen hexpected
  · exact sinkSafe_rDataOoo hobserved p

theorem sinkSafe_rDispatch (hopen : s.rcv.sinkOpen = sinkPhase s.rcv.phase) {p : Packet} (hp : sentPacket s p) :
    sinkSafe (rDispatch p s) := by
  have hmoved (hphase : s.rcv.phase ≠ .listen) (x : RcvPhase) : sinkSafe (setRcvPhase x s) :=
    ⟨fun _ => hs.1 hphase, hs.2⟩
  unfold rDispatch
  split
  next _ hsyn => exact sinkSafe_rRxSyn hs hw hactive hp hsyn
  next hphase _ => exact hmoved (by simp [hphase]) _
  next hphase hdata => exact sinkSafe_rRxData hs hw hactive hp hdata (by rw [hopen, hphase]; rfl)
  next hphase _ => exact hmoved (by simp [hphase]) .finRcvd
  next hphase _ => exact hmoved (by simp [hphase]) .listen
  next => exact hs

theorem sinkSafe_rReceive (hopen : s.rcv.sinkOpen = sinkPhase s.rcv.phase) {b : Bytes} (hb : sentDatagram s b) :
    sinkSafe (rReceive b s) := by
  obtain ⟨c, -, he⟩ | ⟨p, hp, he⟩ := rReceive_cases s b <;> rw [he]
  · exact sinkSafe_rRxCorrupt hs b c
  · exact sinkSafe_rDispatch (s := logRcv (packetRec s.now p) s) hs hw hactive hopen (sentPacket_of_decodeFrame hb hp)

end Sink

/-! ## Every step of R14 keeps the delivery invariant (R245) -/

/-- Nothing is on its way and nothing is delivered, as after reset (R44). -/
structure AtRest (s : State) : Prop where
  chanSR : s.chanSR = []
  pending : s.pld.pending = []
  held : s.pld.held = none
  listening : s.rcv.phase = .listen
  rcvNxt : s.rcv.rcvNxt = 0
  sink : s.sink = []

theorem AtRest.inTransit {s : State} (h : AtRest s) (P : Bytes → Prop) : InTransit P s :=
  ⟨by simp [h.chanSR], by simp [h.pending], by simp [h.held]⟩

theorem AtRest.sinkSafe {s : State} (h : AtRest s) : sinkSafe s := by
  refine ⟨fun hphase => absurd h.listening hphase, ?_⟩
  rw [h.sink, h.rcvNxt, Nat.zero_sub]
  rfl

theorem deliverySafe_iff (s : State) :
    deliverySafe s ↔ InTransit (sentFrame s) s ∧ (s.snd.phase = .idle → AtRest s) ∧ sinkSafe s := by
  constructor
  · rintro ⟨hchan, hpending, hheld, hidle, hnext, hsink⟩
    refine ⟨⟨hchan, hpending, hheld⟩, fun hphase => ?_, hnext, hsink⟩
    obtain ⟨hchan0, hpending0, hheld0, hlisten, hnext0⟩ := hidle hphase
    refine ⟨hchan0, hpending0, hheld0, hlisten, hnext0, ?_⟩
    rw [hsink, hnext0, Nat.zero_sub]
    rfl
  · rintro ⟨⟨hchan, hpending, hheld⟩, hidle, hnext, hsink⟩
    refine ⟨hchan, hpending, hheld, fun hphase => ?_, hnext, hsink⟩
    obtain ⟨hchan0, hpending0, hheld0, hlisten, hnext0, -⟩ := hidle hphase
    exact ⟨hchan0, hpending0, hheld0, hlisten, hnext0⟩

theorem AtRest.deliverySafe {s : State} (h : AtRest s) : deliverySafe s :=
  (deliverySafe_iff s).2 ⟨h.inTransit _, fun _ => h, h.sinkSafe⟩

section Delivery

variable {s t : State} (hd : deliverySafe s)
include hd

theorem inTransit_of_deliverySafe : InTransit (sentFrame s) s := ((deliverySafe_iff s).1 hd).1

theorem atRest_of_deliverySafe (hidle : s.snd.phase = .idle) : AtRest s := ((deliverySafe_iff s).1 hd).2.1 hidle

theorem sinkSafe_of_deliverySafe : sinkSafe s := ((deliverySafe_iff s).1 hd).2.2

/-- An operation behind a guard has only its enabled case to keep (entry 4). -/
theorem deliverySafe_ite {g : Prop} [Decidable g] (ht : g → deliverySafe t) :
    deliverySafe (if g then t else s) := by
  split_ifs with hg
  · exact ht hg
  · exact hd

/-- An operation that changes at most what is on its way, and the sender's registers but the base. -/
theorem deliverySafe_of_inTransit (htransit : InTransit (sentFrame s) t) (hactive : t.snd.phase ≠ .idle)
    (hbase : t.snd.base = s.snd.base) (hcfg : t.cfg = s.cfg := by simp) (hsrc : t.src = s.src := by simp)
    (hrcv : t.rcv = s.rcv := by simp) (hsink : t.sink = s.sink := by simp) : deliverySafe t := by
  refine (deliverySafe_iff t).2 ⟨?_, fun hidle => absurd hidle hactive, ?_⟩
  · rwa [sentFrame_congr hbase hcfg hsrc]
  · have hs := sinkSafe_of_deliverySafe hd
    rwa [sinkSafe, endSeq, hbase, hcfg, hsrc, hrcv, hsink]

/-- An operation of the receiver leaves alone what is on its way and what the sender may send (R42). -/
theorem deliverySafe_of_sinkSafe (hs : sinkSafe t) (hactive : s.snd.phase ≠ .idle)
    (hchan : t.chanSR = s.chanSR := by simp) (hpld : t.pld = s.pld := by simp) (hsnd : t.snd = s.snd := by simp)
    (hcfg : t.cfg = s.cfg := by simp) (hsrc : t.src = s.src := by simp) : deliverySafe t := by
  refine (deliverySafe_iff t).2 ⟨?_, fun hidle => absurd (hsnd ▸ hidle) hactive, hs⟩
  rw [sentFrame_congr (by rw [hsnd]) hcfg hsrc]
  exact (inTransit_of_deliverySafe hd).of_same hchan hpld

/-- Datagrams may leave `chan.SR` (R68, R294). -/
theorem deliverySafe_withChanSR {l : List Bytes} (hl : l ⊆ s.chanSR) : deliverySafe (s.withChanSR l) := by
  obtain ⟨htransit, hrest, hsink⟩ := (deliverySafe_iff s).1 hd
  refine (deliverySafe_iff _).2 ⟨htransit.of_subset hl (List.Subset.refl _) rfl, fun hidle => ?_, hsink⟩
  obtain ⟨hchan, hpending, hheld, hlisten, hnext, hempty⟩ := hrest hidle
  exact ⟨List.subset_nil.1 (hchan ▸ hl), hpending, hheld, hlisten, hnext, hempty⟩

theorem deliverySafe_dlyFire {m : Pending} (hm : m ∈ s.pld.pending) : deliverySafe (dlyFire m s) := by
  have hactive : s.snd.phase ≠ .idle := fun hidle => by simp [(atRest_of_deliverySafe hd hidle).pending] at hm
  exact deliverySafe_of_inTransit hd ((inTransit_of_deliverySafe hd).dlyFire hm) (by simpa using hactive) (by simp)

/-- `S.OPEN` starts at rest, and its `SYN` is the first frame on the way (R184). -/
theorem deliverySafe_sOpen (hidle : s.snd.phase = .idle) (hlegal : senderConfigLegal s.cfg = true) :
    deliverySafe (sOpen s) := by
  obtain ⟨hchan, hpending, -, hlisten, hnext, hempty⟩ := atRest_of_deliverySafe hd hidle
  have hrest : AtRest (sOpenRegs s) := ⟨hchan, hpending, rfl, hlisten, hnext, hempty⟩
  have hsyn : sentFrame (sOpenRegs s) (mkFrame (sOpenRegs s) .syn s.cfg.isnS 0 []) := sentFrame_syn hlegal
  rw [sOpen_eq]
  exact deliverySafe_of_inTransit hrest.deliverySafe ((hrest.inTransit _).of_submit hsyn rfl rfl rfl rfl) nofun rfl

theorem deliverySafe_cmdStart (hidle : s.snd.phase = .idle) : deliverySafe (cmdStart s) := by
  unfold cmdStart
  split_ifs with hlegal
  · exact deliverySafe_sOpen hd hidle hlegal
  · exact hd

/-- At rest no register that can be written is in the way; later only the receiver's two can be written (R75, R292). -/
theorem deliverySafe_cfgWrite {w : CfgWrite} (hen : cfgWriteEnabled w s = true) : deliverySafe (cfgWrite w s) := by
  by_cases hidle : s.snd.phase = .idle
  · obtain ⟨hchan, hpending, hheld, hlisten, hnext, hempty⟩ := atRest_of_deliverySafe hd hidle
    refine AtRest.deliverySafe ?_
    cases w <;> exact ⟨hchan, hpending, hheld, hlisten, hnext, hempty⟩
  · obtain ⟨isn, wnd, he⟩ := cfgWrite_of_not_idle hidle hen
    rw [he]
    exact hd

theorem deliverySafe_chanLose (d : Dir) (n : Nat) : deliverySafe (chanLose d n s) := by
  unfold chanLose
  split
  · exact hd
  · cases d with
    | sr => exact deliverySafe_withChanSR hd (List.eraseIdx_subset ..)
    | rs => exact hd

variable (hw : windowSafe s)
include hw

/-- A rule of the sender outside `IDLE` keeps the base, which is fixed by the configuration (R184). -/
theorem deliverySafe_of_sndRule (hactive : s.snd.phase ≠ .idle) (hr : SndRule s t)
    (htransit : InTransit (sentFrame s) t) (hsrc : t.src = s.src := by simp) (hrcv : t.rcv = s.rcv := by simp)
    (hsink : t.sink = s.sink := by simp) : deliverySafe t := by
  have hactive' : t.snd.phase ≠ .idle := by
    obtain ⟨-, rfl⟩ | ⟨hidle, -⟩ := hr.hold
    · exact nofun
    · exact mt hidle.1 hactive
  have hbase := (bounds_of_active hw hactive).1
  have hbase' := (bounds_of_active (hr.move.keepsWindow hw hr.cfg) hactive').1
  rw [hr.cfg] at hbase'
  exact deliverySafe_of_inTransit hd htransit hactive' (hbase'.trans hbase.symm) hr.cfg hsrc hrcv hsink

theorem deliverySafe_sReceive (hactive : s.snd.phase ≠ .idle) (b : Bytes) : deliverySafe (sReceive b s) := by
  obtain ⟨l, hr⟩ := sndRule_sReceive s b
  exact deliverySafe_of_sndRule (s := s.withLogS l) hd hw hactive hr
    (inTransit_sReceive (inTransit_of_deliverySafe hd) hw hactive b)

theorem deliverySafe_sRx (pick : Nat) : deliverySafe (sRx pick s) := by
  obtain he | ⟨b, hpolls, -, he⟩ := sRx_cases s pick <;> rw [he]
  · exact hd
  · have hactive : s.snd.phase ≠ .idle := fun hidle => by simp [hidle, sndPolls] at hpolls
    exact deliverySafe_sReceive (s := s.withChanRS (s.chanRS.eraseIdx (pollIndex pick))) hd hw hactive b

variable (hregs : registersSafe s)
include hregs

theorem deliverySafe_rRx (pick : Nat) : deliverySafe (rRx pick s) := by
  obtain he | ⟨b, -, hb, he⟩ := rRx_cases s pick <;> rw [he]
  · exact hd
  have hmem : b ∈ s.chanSR := List.mem_of_getElem? hb
  have hactive : s.snd.phase ≠ .idle := fun hidle => by simp [(atRest_of_deliverySafe hd hidle).chanSR] at hmem
  have hu := deliverySafe_withChanSR hd (List.eraseIdx_subset (l := s.chanSR) (k := pollIndex pick))
  have hsent : sentDatagram s b := (inTransit_of_deliverySafe hd).chanSR b hmem
  obtain ⟨hopen, -⟩ := rcvRegsSafe_of_registersSafe hregs
  exact deliverySafe_of_sinkSafe hu (sinkSafe_rReceive (sinkSafe_of_deliverySafe hu) hw hactive hopen hsent) hactive

/-- Every operation that is a step of R14 or a command of the environment. -/
theorem deliverySafe_exec {i : Instr} (hstep : isStep i = true) (h : exec i s = .next t) : deliverySafe t := by
  have htransit := inTransit_of_deliverySafe hd
  have hsink := sinkSafe_of_deliverySafe hd
  have hactive {ph : RcvPhase} (hphase : s.rcv.phase = ph) (hph : ph ≠ .listen) : s.snd.phase ≠ .idle :=
    fun hidle => hph (hphase.symm.trans (atRest_of_deliverySafe hd hidle).listening)
  cases i with
  | dlyFire m => cases h; exact deliverySafe_ite hd fun g => deliverySafe_dlyFire hd g.1
  | sOpen => cases h; exact deliverySafe_ite hd fun g => deliverySafe_sOpen hd g.1 g.2
  | sRx pick => cases h; exact deliverySafe_sRx hd hw pick
  | sHsack =>
    cases h
    refine deliverySafe_ite hd fun g => ?_
    exact deliverySafe_of_sndRule hd hw (by simp [g]) (.hsack g) (inTransit_sHsack htransit)
  | sSend =>
    cases h
    refine deliverySafe_ite hd fun g => ?_
    have hne : s.snd.phase ≠ .idle := by simp [(sSendEnabled_bounds g).1]
    exact deliverySafe_of_sndRule hd hw hne (.send g) (inTransit_sSend htransit hw hne g)
  | sTimeout =>
    cases h
    refine deliverySafe_ite hd fun g => ?_
    exact deliverySafe_of_sndRule hd hw (by simp [((sTimeoutEnabled_iff s).1 g).1]) .timeout (htransit.of_same rfl rfl)
  | sFin =>
    cases h
    refine deliverySafe_ite hd fun g => ?_
    obtain ⟨hphase, -⟩ := (sFinEnabled_iff s).1 g
    exact deliverySafe_of_sndRule hd hw (by simp [hphase]) (.fin hphase) (inTransit_sFin htransit)
  | rRx pick => cases h; exact deliverySafe_rRx hd hw hregs pick
  | rSynack =>
    cases h
    exact deliverySafe_ite hd fun g => deliverySafe_of_sinkSafe hd (sinkSafe_rSynack hsink g) (hactive g (by decide))
  | rClose =>
    cases h
    exact deliverySafe_ite hd fun g => deliverySafe_of_sinkSafe hd (sinkSafe_rClose hsink g) (hactive g (by decide))
  | cmdReset => cases h; exact AtRest.deliverySafe ⟨rfl, rfl, rfl, rfl, rfl, rfl⟩
  | cmdStart => cases h; exact deliverySafe_ite hd (deliverySafe_cmdStart hd)
  | cmdCfgwr w => cases h; exact deliverySafe_ite hd (deliverySafe_cfgWrite hd)
  | clockAdvance => cases h; exact deliverySafe_ite hd fun _ => hd
  | chanLose d n => cases h; exact deliverySafe_chanLose hd d n
  | _ => cases hstep

end Delivery

/-- Settles O60: what is on its way is what the sender built, so the one segment that the receiver appends carries the
source bytes behind those it has; the slot taken off the schedule is no part of the invariants. -/
theorem stepsDeliverTheSourceInOrder : Obligations.StepsDeliverTheSourceInOrder := by
  intro s t slot rest i hw hregs hd hsched hdecode hstep h
  rw [stepRunsTheDecodedOperation s slot rest i hsched hdecode] at h
  exact deliverySafe_exec (s := s.withEnv { s.env with sched := rest }) hd hw hregs hstep h

end Sys2Proof.Proofs.Receiver

namespace Sys2Proof.Proofs.Environment

open Sys2Proof Sys2Proof.Machine

/-! ## The environment commands (R290 to R294) -/

section Commands

variable {s : State} {w : CfgWrite} {d : Dir}

/-- R292: `CMD.CFGWR` is its write under the condition that its guard decides. -/
theorem exec_cmdCfgwr_of_guard {p : Prop} [Decidable p] (hguard : cfgWriteEnabled w s = true ↔ p) :
    exec (.cmdCfgwr w) s = .next (if p then cfgWrite w s else s) :=
  congrArg Host.Outcome.next (if_congr hguard rfl rfl)

/-- R75: a receiver register, whose owner is idle in `LISTEN`. -/
theorem cfgWriteEnabled_iff_listen (hw : cfgWriteEnabled w s = (s.rcv.phase == .listen)) :
    cfgWriteEnabled w s = true ↔ s.rcv.phase = .listen := by rw [hw, beq_iff_eq]

/-- R75: any other register and `SRC`, whose owner is idle in `IDLE`. -/
theorem cfgWriteEnabled_iff_idle (hw : cfgWriteEnabled w s = (s.snd.phase == .idle)) :
    cfgWriteEnabled w s = true ↔ s.snd.phase = .idle := by rw [hw, beq_iff_eq]

/-- The memory that a write of `SRC` builds reads the written bytes, and 0 behind them (R63; entry 16). -/
theorem memRead_memOfBytes_zero (bs : Bytes) (a : Nat) : memRead (memOfBytes 0 bs) a = (bs[a]?).getD 0x00#8 := by
  have hread := memRead_memOfBytes bs 0 a
  rwa [Nat.zero_add, List.getD_eq_getElem?_getD] at hread

/-- R293: the guard of `CLOCK.ADVANCE` is that its operand is not negative. -/
theorem exec_clockAdvance_of_nonneg {dt : Time} (hdt : 0 ≤ dt) :
    exec (.clockAdvance dt) s = .next (s.withNow (s.now + dt)) := congrArg Host.Outcome.next (if_pos hdt)

/-- R294: the FIFO channel has no such command (entry 26). -/
theorem exec_chanLose_of_fifoReliable (hchannel : Config.channel = .fifoReliable) (i : Nat) :
    exec (.chanLose d i) s = .next s := by
  change Host.Outcome.next (chanLose d i s) = _
  rw [chanLose, hchannel]

/-- R294: the lossy channel loses the datagram at the index, in the one direction only. -/
theorem exec_chanLose_of_unorderedLossy (hchannel : Config.channel = .unorderedLossy) (i : Nat) :
    exec (.chanLose d i) s = .next (chanPut d ((chanGet d s).eraseIdx i) s) := by
  change Host.Outcome.next (chanLose d i s) = _
  rw [chanLose, hchannel]

end Commands

/-- Settles O47: the guard is the idle phase of the register's owner, and the write is the one register; the bytes of
`SRC` are read back from the memory built from them. -/
theorem configurationWriteWhileIdle : Obligations.ConfigurationWriteWhileIdle := by
  intro w s
  cases w with
  | isnR | rcvWnd => exact exec_cmdCfgwr_of_guard (cfgWriteEnabled_iff_listen rfl)
  | src v =>
    have hexec := exec_cmdCfgwr_of_guard (cfgWriteEnabled_iff_idle (w := .src v) (s := s) rfl)
    constructor
    · intro hidle
      rw [if_pos hidle] at hexec
      exact ⟨memOfBytes 0 v, hexec, memOfBytes_wf v, memRead_memOfBytes_zero v⟩
    · intro hbusy
      rwa [if_neg hbusy] at hexec
  | _ => exact exec_cmdCfgwr_of_guard (cfgWriteEnabled_iff_idle rfl)

/-- Settles O48: the clock by its guard, the loss by the channel's contract. -/
theorem clockAndLossAct : Obligations.ClockAndLossAct := by
  intro dt i s
  refine ⟨exec_clockAdvance_of_nonneg, ?_⟩
  split
  next hfifo => exact ⟨exec_chanLose_of_fifoReliable hfifo i, exec_chanLose_of_fifoReliable hfifo i⟩
  next hlossy => exact ⟨exec_chanLose_of_unorderedLossy hlossy i, exec_chanLose_of_unorderedLossy hlossy i⟩

end Sys2Proof.Proofs.Environment

namespace Sys2Proof.Proofs.Start

open Sys2Proof Sys2Proof.Machine

/-! ## `CMD.START` and the configurations it accepts (R264, R291, R306) -/

/-- R306, check 4, of one of the five probabilities. -/
theorem probabilityOk_iff (p : Rat) : probabilityOk p = true ↔ 0 ≤ p ∧ p ≤ 1 := by
  rw [probabilityOk, Bool.and_eq_true, decide_eq_true_iff, decide_eq_true_iff]

/-- R306, checks 1 to 7: those that `CMD.START` evaluates. -/
theorem senderConfigLegal_iff (c : Cfg) : senderConfigLegal c = true ↔
    (1 ≤ c.mss ∧ c.mss ≤ c.payloadMax) ∧ (c.mss ≤ c.window ∧ c.window < 2 ^ 32) ∧ 0 ≤ c.gamma ∧
      ((0 ≤ c.pDrop ∧ c.pDrop ≤ 1) ∧ (0 ≤ c.pDuplicate ∧ c.pDuplicate ≤ 1) ∧ (0 ≤ c.pCorrupt ∧ c.pCorrupt ≤ 1) ∧
        (0 ≤ c.pReorder ∧ c.pReorder ≤ 1) ∧ (0 ≤ c.pDelay ∧ c.pDelay ≤ 1)) ∧
      1 ≤ c.reorderMaxDelay ∧ 0 ≤ c.delayMaxDelay ∧ c.isnS + c.srcLen + 2 < 2 ^ 32 := by
  simp only [senderConfigLegal, Bool.and_eq_true, decide_eq_true_eq, probabilityOk_iff, and_assoc]

/-- R306, check 8: every value of the scope's type is one of the two it admits. -/
theorem pldScope_admitted (v : PldScope) : v = .dataOnly ∨ v = .all := by
  cases v with
  | dataOnly => exact .inl rfl
  | all => exact .inr rfl

section Command

variable {s : State}

/-- R291: outside `IDLE` the command is ignored. -/
theorem exec_cmdStart_of_not_idle (hbusy : s.snd.phase ≠ .idle) : exec .cmdStart s = .next s :=
  congrArg Host.Outcome.next (if_neg hbusy)

/-- R264, R291: an illegal configuration is a `ConfigError`, which sets the sticky flag of the sender. -/
theorem exec_cmdStart_of_illegal (hidle : s.snd.phase = .idle) (hillegal : senderConfigLegal s.cfg = false) :
    exec .cmdStart s = .next (s.withSnd { s.snd with cfgErr := true }) :=
  congrArg Host.Outcome.next ((if_pos hidle).trans (if_neg (ne_true_of_eq_false hillegal)))

end Command

/-- Settles O29: the seven evaluated checks and the one that holds by type, then the command by its two guards. -/
theorem startRefusesAnIllegalConfiguration : Obligations.StartRefusesAnIllegalConfiguration := by
  refine fun s => ⟨?_, exec_cmdStart_of_illegal, exec_cmdStart_of_not_idle⟩
  have hscope := pldScope_admitted s.cfg.pldScope
  rw [senderConfigLegal_iff]
  simp only [hscope, and_true]

end Sys2Proof.Proofs.Start
